-- ==== Sys2Proof/Word.lean ====
section
/-! DEFINITION. The value types of the block: nibbles, bytes, times, the two enumerations, commands, frames
and requests (spec/10_state.md R20 to R22, 30_encoding.md R81, R84). -/

namespace Sys2Proof

/-- Four bits; `1011` has bit 3 on the left (R8). -/
abbrev Nibble := BitVec 4

/-- Eight bits (R8). -/
abbrev Byte := BitVec 8

/-- A `TS_W` = 32 bit unsigned millisecond count (R7, R24). -/
abbrev Time := BitVec 32

/-- The stored temperature: 5 bits unsigned, the number of degrees itself (R20, R22). -/
abbrev Temp := BitVec 5

/-- The five modes, in the order of their storage codes 0 to 4 (R22). -/
inductive Mode where
  | cool | heat | auto | fan | dry
  deriving DecidableEq, Repr, Inhabited

/-- The four fan speeds, in the order of their storage codes 0 to 3 (R22). -/
inductive Fan where
  | auto | low | medium | high
  deriving DecidableEq, Repr, Inhabited

/-- The four fields of DeviceState, and of the command of a SEND in flight (R20, R21).
It is a CanonicalCommand (R10) when its temperature lies in 17..30. -/
structure Command where
  power : Bool
  temp  : Temp
  mode  : Mode
  fan   : Fan
  deriving DecidableEq, Repr, Inhabited

/-- The ProtocolFrame: three bytes, byte 0 first (R54, R84). -/
structure Frame where
  byte0 : Byte
  byte1 : Byte
  byte2 : Byte
  deriving DecidableEq, Repr, Inhabited

/-- The four fields of a request word (R81). -/
structure Request where
  temperature : BitVec 8
  power       : Bool
  modeTok     : BitVec 3
  fanTok      : BitVec 4
  deriving DecidableEq, Repr, Inhabited

end Sys2Proof
end

