-- ==== Sys2Proof/Config.lean ====
section
/-! DEFINITION. What an implementation fixes (the OPEN parameters of spec/00_scope.md R7, arguments of the model)
and the free values (log 4). The constants that the source fixes (R6) stand in Machine/Tables.lean. -/

namespace Sys2Proof

/-- The OPEN parameters of R7. They are configuration (R26): no instruction writes them. -/
structure Params where
  /-- `U`, the timing unit in the sink's duration unit; positive (D3). -/
  u         : Nat
  /-- `CARRIER_HZ`; positive (D4). -/
  carrierHz : Nat
  /-- `RST_POWER`, `RST_TEMP`, `RST_MODE`, `RST_FAN` (D7). -/
  rst       : Command
  /-- `RST_LAST_TX` (D8). -/
  rstLastTx : Time
  deriving DecidableEq, Repr, Inhabited

/-- Free value: what `c_lat` holds after the n-th reset event (R32: unspecified; U11: any value). Log 4. -/
opaque Config.freeCommand : Nat → Command

/-- Free value: what `F_lat` holds after the n-th reset event (R32: unspecified; U11: any value). Log 4. -/
opaque Config.freeFrame : Nat → Frame

end Sys2Proof
end

