-- ==== Sys2Proof/Syntax.lean ====
section
/-! DEFINITION. The operations of the block: one constructor for each row of spec/opcode_table.json (R90).
Operands are those of the row's rule, as the rule's "Operands" line gives them; registers and input ports
are read by the meaning and are no operands here. -/

namespace Sys2Proof

inductive Instr where
  -- format REQ (R81, R180)
  | sendOn  (temperature : BitVec 8) (modeTok : BitVec 3) (fanTok : BitVec 4)
  | sendOff (temperature : BitVec 8) (modeTok : BitVec 3) (fanTok : BitVec 4)
  -- format REQ.mode (R82, R112)
  | modeCool | modeHeat | modeAuto | modeFan | modeDry
  | modeKeep5 | modeKeep6 | modeKeep7
  -- format REQ.fan (R83, R112)
  | fantokAuto | fantokLow | fantokMedium | fantokHigh
  | fantokKeep4to7 (low : BitVec 2)
  | fantokKeep8to15 (low : BitVec 3)
  -- format FRAME (R84, R135)
  | frame (fanNibble stateNibble tempNibble modeNibble : Nibble)
  -- format FRAME.fan (R132)
  | fannibAuto | fannibLow | fannibMedium | fannibHigh
  -- format FRAME.state (R133)
  | statenibOn | statenibOff
  -- format FRAME.temp (R130, R134)
  | tempnib17 | tempnib18 | tempnib19 | tempnib20 | tempnib21 | tempnib22 | tempnib23
  | tempnib24 | tempnib25 | tempnib26 | tempnib27 | tempnib28 | tempnib29 | tempnib30
  | tempnibOff
  -- format FRAME.mode (R131)
  | modenibCool | modenibHeat | modenibAuto | modenibFan | modenibDry
  -- format SYM (R85)
  | symHdr | symBit0 | symBit1 | symStop | symGap
  -- format RES (R211)
  | outcomeOk | outcomeRateLimited | outcomeTxFailed
  -- format SUBOP: no encoding (R90)
  | normalize (req : BitVec 16)
  | clamp (t : Int)
  | tokenFallback (modeTok : BitVec 3) (fanTok : BitVec 4)
  | maptemp (temp : Temp)
  | mapmode (mode : Mode)
  | mapfan (fan : Fan)
  | mapstate (power : Bool)
  | tempnib (power : Bool) (temp : Temp)
  | frameBuild (c : Command)
  | sym (b : Bool)
  | encbyte (b : Byte)
  | encpair (b : Byte)
  | rep (f : Frame)
  | train (f : Frame)
  | dur (f : Frame) (k : Nat)
  | start (c : Command)
  | tick
  | finish
  | guard (t0 : Time)
  | accept (req : BitVec 16)
  | reject
  | transmit
  | fail
  | commit
  | reset
  deriving DecidableEq, Repr

end Sys2Proof
end

