-- ==== Sys2Proof/Decode.lean ====
section
/-! DEFINITION. The decoder of every format of spec/30_encoding.md and spec/opcode_table.json, total, rejecting by
name, and after it the encoder written from the same table. -/

namespace Sys2Proof

/-- A word of one format of the opcode table, bit 0 the least significant (R8). The formats REQ.mode and REQ.fan
are fields of a request word and FRAME.fan to FRAME.mode are fields of a frame word (R90). A SYM row's encoding is
a pair of durations in units of `U`, either of which may be absent (R85). -/
inductive Code where
  | req (w : BitVec 16)
  | reqMode (w : BitVec 16)
  | reqFan (w : BitVec 16)
  | frame (w : BitVec 24)
  | frameFan (w : BitVec 24)
  | frameState (w : BitVec 24)
  | frameTemp (w : BitVec 24)
  | frameMode (w : BitVec 24)
  | symbol (mark space : Option Nat)
  | res (w : BitVec 2)
  deriving DecidableEq, Repr

/-- Why a word is no word of its format. -/
inductive Reject where
  /-- Byte 0 of a frame is not 0xB2 (R84). -/
  | wrongMagic
  /-- A fan nibble the block never generates (R91 d). -/
  | fanNibbleNeverGenerated
  /-- A state nibble the block never generates (R91 d). -/
  | stateNibbleNeverGenerated
  /-- The temperature nibble 1111 (R91 d). -/
  | tempNibbleNeverGenerated
  /-- A mode nibble the block never generates (R91 d). -/
  | modeNibbleNeverGenerated
  /-- A pair of durations that is none of the five wire symbols (R85). -/
  | noSuchSymbol
  /-- `res_code` 3, never produced (R88, R91 e). -/
  | outcomeCodeNeverProduced
  /-- No format of the table accepts a word of this width and value. -/
  | noFormat
  deriving DecidableEq, Repr

/-! ## Fields -/

/-- The four fields of a request word (R81). -/
def splitRequest (w : BitVec 16) : Request :=
  { temperature := w.extractLsb' 8 8
    power       := w.getLsbD 7
    modeTok     := w.extractLsb' 4 3
    fanTok      := w.extractLsb' 0 4 }

/-- The request word of four fields: `tttttttt p mmm ffff` (R81). -/
def packRequest (r : Request) : BitVec 16 :=
  (r.temperature.setWidth 16 <<< 8) ||| ((BitVec.ofBool r.power).setWidth 16 <<< 7)
    ||| (r.modeTok.setWidth 16 <<< 4) ||| r.fanTok.setWidth 16

/-- The 24-bit word of four nibbles behind the magic byte: `10110010 ffff ssss tttt mmmm` (R84). -/
def packFrameWord (fan state temp mode : Nibble) : BitVec 24 :=
  0xB20000 ||| (fan.setWidth 24 <<< 12) ||| (state.setWidth 24 <<< 8) ||| (temp.setWidth 24 <<< 4)
    ||| mode.setWidth 24

/-! ## Decoding -/

/-- Every request word is a SEND; bit 7 splits the two rows (R90). -/
def decodeRequest (w : BitVec 16) : Instr :=
  let r := splitRequest w
  if r.power then .sendOn r.temperature r.modeTok r.fanTok
  else .sendOff r.temperature r.modeTok r.fanTok

/-- The mode token, bits 6:4 (R82): total. -/
def decodeModeTok (w : BitVec 16) : Instr :=
  match (w.extractLsb' 4 3).toNat with
  | 0 => .modeCool
  | 1 => .modeHeat
  | 2 => .modeAuto
  | 3 => .modeFan
  | 4 => .modeDry
  | 5 => .modeKeep5
  | 6 => .modeKeep6
  | _ => .modeKeep7

/-- The fan token, bits 3:0 (R83): total. -/
def decodeFanTok (w : BitVec 16) : Instr :=
  if w.getLsbD 3 then .fantokKeep8to15 (w.extractLsb' 0 3)
  else if w.getLsbD 2 then .fantokKeep4to7 (w.extractLsb' 0 2)
  else match (w.extractLsb' 0 2).toNat with
    | 0 => .fantokAuto
    | 1 => .fantokLow
    | 2 => .fantokMedium
    | _ => .fantokHigh

/-- The FRAME pattern: byte 0 is the magic byte (R84; match 0xB20000, mask 0xFF0000). -/
def decodeFrameWord (w : BitVec 24) : Except Reject Instr :=
  if w.extractLsb' 16 8 = 0xB2 then
    .ok (.frame (w.extractLsb' 12 4) (w.extractLsb' 8 4) (w.extractLsb' 4 4) (w.extractLsb' 0 4))
  else .error .wrongMagic

/-- Bits 15:12 of a frame word (R53, R132). -/
def decodeFanNibble (w : BitVec 24) : Except Reject Instr :=
  match (w.extractLsb' 12 4).toNat with
  | 0b1011 => .ok .fannibAuto
  | 0b1001 => .ok .fannibLow
  | 0b0101 => .ok .fannibMedium
  | 0b0011 => .ok .fannibHigh
  | _ => .error .fanNibbleNeverGenerated

/-- Bits 11:8 of a frame word (R133). -/
def decodeStateNibble (w : BitVec 24) : Except Reject Instr :=
  match (w.extractLsb' 8 4).toNat with
  | 0b1111 => .ok .statenibOn
  | 0b1011 => .ok .statenibOff
  | _ => .error .stateNibbleNeverGenerated

/-- Bits 7:4 of a frame word (R51, R134). -/
def decodeTempNibble (w : BitVec 24) : Except Reject Instr :=
  match (w.extractLsb' 4 4).toNat with
  | 0b0000 => .ok .tempnib17
  | 0b0001 => .ok .tempnib18
  | 0b0011 => .ok .tempnib19
  | 0b0010 => .ok .tempnib20
  | 0b0110 => .ok .tempnib21
  | 0b0111 => .ok .tempnib22
  | 0b0101 => .ok .tempnib23
  | 0b0100 => .ok .tempnib24
  | 0b1100 => .ok .tempnib25
  | 0b1101 => .ok .tempnib26
  | 0b1001 => .ok .tempnib27
  | 0b1000 => .ok .tempnib28
  | 0b1010 => .ok .tempnib29
  | 0b1011 => .ok .tempnib30
  | 0b1110 => .ok .tempnibOff
  | _ => .error .tempNibbleNeverGenerated

/-- Bits 3:0 of a frame word (R52, R131). -/
def decodeModeNibble (w : BitVec 24) : Except Reject Instr :=
  match (w.extractLsb' 0 4).toNat with
  | 0b0000 => .ok .modenibCool
  | 0b1100 => .ok .modenibHeat
  | 0b1000 => .ok .modenibAuto
  | 0b0100 => .ok .modenibFan
  | 0b0010 => .ok .modenibDry
  | _ => .error .modeNibbleNeverGenerated

/-- The five wire symbols (R85). -/
def decodeSymbol (mark space : Option Nat) : Except Reject Instr :=
  match mark, space with
  | some 8, some 8 => .ok .symHdr
  | some 1, some 1 => .ok .symBit0
  | some 1, some 3 => .ok .symBit1
  | some 1, none => .ok .symStop
  | none, some 8 => .ok .symGap
  | _, _ => .error .noSuchSymbol

/-- The three outcome codes (R88, R211). -/
def decodeOutcome (w : BitVec 2) : Except Reject Instr :=
  match w.toNat with
  | 0 => .ok .outcomeOk
  | 1 => .ok .outcomeRateLimited
  | 2 => .ok .outcomeTxFailed
  | _ => .error .outcomeCodeNeverProduced

/-- The decoder: total on every word of every format. -/
def decode : Code → Except Reject Instr
  | .req w => .ok (decodeRequest w)
  | .reqMode w => .ok (decodeModeTok w)
  | .reqFan w => .ok (decodeFanTok w)
  | .frame w => decodeFrameWord w
  | .frameFan w => decodeFanNibble w
  | .frameState w => decodeStateNibble w
  | .frameTemp w => decodeTempNibble w
  | .frameMode w => decodeModeNibble w
  | .symbol mark space => decodeSymbol mark space
  | .res w => decodeOutcome w

/-! ## Encoding -/

/-- The word of an instruction, from the table's match values and field places, all bits outside a field row's
field 0; `none` for the SUBOP rows, which have no encoding (R90). -/
def encode : Instr → Option Code
  | .sendOn temperature modeTok fanTok => some (.req (packRequest ⟨temperature, true, modeTok, fanTok⟩))
  | .sendOff temperature modeTok fanTok => some (.req (packRequest ⟨temperature, false, modeTok, fanTok⟩))
  | .modeCool => some (.reqMode 0x0000)
  | .modeHeat => some (.reqMode 0x0010)
  | .modeAuto => some (.reqMode 0x0020)
  | .modeFan => some (.reqMode 0x0030)
  | .modeDry => some (.reqMode 0x0040)
  | .modeKeep5 => some (.reqMode 0x0050)
  | .modeKeep6 => some (.reqMode 0x0060)
  | .modeKeep7 => some (.reqMode 0x0070)
  | .fantokAuto => some (.reqFan 0x0000)
  | .fantokLow => some (.reqFan 0x0001)
  | .fantokMedium => some (.reqFan 0x0002)
  | .fantokHigh => some (.reqFan 0x0003)
  | .fantokKeep4to7 low => some (.reqFan (0x0004 ||| low.setWidth 16))
  | .fantokKeep8to15 low => some (.reqFan (0x0008 ||| low.setWidth 16))
  | .frame fan state temp mode => some (.frame (packFrameWord fan state temp mode))
  | .fannibAuto => some (.frameFan 0x00B000)
  | .fannibLow => some (.frameFan 0x009000)
  | .fannibMedium => some (.frameFan 0x005000)
  | .fannibHigh => some (.frameFan 0x003000)
  | .statenibOn => some (.frameState 0x000F00)
  | .statenibOff => some (.frameState 0x000B00)
  | .tempnib17 => some (.frameTemp 0x000000)
  | .tempnib18 => some (.frameTemp 0x000010)
  | .tempnib19 => some (.frameTemp 0x000030)
  | .tempnib20 => some (.frameTemp 0x000020)
  | .tempnib21 => some (.frameTemp 0x000060)
  | .tempnib22 => some (.frameTemp 0x000070)
  | .tempnib23 => some (.frameTemp 0x000050)
  | .tempnib24 => some (.frameTemp 0x000040)
  | .tempnib25 => some (.frameTemp 0x0000C0)
  | .tempnib26 => some (.frameTemp 0x0000D0)
  | .tempnib27 => some (.frameTemp 0x000090)
  | .tempnib28 => some (.frameTemp 0x000080)
  | .tempnib29 => some (.frameTemp 0x0000A0)
  | .tempnib30 => some (.frameTemp 0x0000B0)
  | .tempnibOff => some (.frameTemp 0x0000E0)
  | .modenibCool => some (.frameMode 0x000000)
  | .modenibHeat => some (.frameMode 0x00000C)
  | .modenibAuto => some (.frameMode 0x000008)
  | .modenibFan => some (.frameMode 0x000004)
  | .modenibDry => some (.frameMode 0x000002)
  | .symHdr => some (.symbol (some 8) (some 8))
  | .symBit0 => some (.symbol (some 1) (some 1))
  | .symBit1 => some (.symbol (some 1) (some 3))
  | .symStop => some (.symbol (some 1) none)
  | .symGap => some (.symbol none (some 8))
  | .outcomeOk => some (.res 0)
  | .outcomeRateLimited => some (.res 1)
  | .outcomeTxFailed => some (.res 2)
  | .normalize _ | .clamp _ | .tokenFallback _ _ => none
  | .maptemp _ | .mapmode _ | .mapfan _ | .mapstate _ | .tempnib _ _ | .frameBuild _ => none
  | .sym _ | .encbyte _ | .encpair _ | .rep _ | .train _ | .dur _ _ => none
  | .start _ | .tick | .finish => none
  | .guard _ | .accept _ | .reject | .transmit | .fail | .commit | .reset => none

/-! ## Words of the opcode table -/

/-- The formats of one width, in the table's order, each with the word read as a word of that format. An outcome code
is 2 bits wide (R80); DESIGN CHOICE: a word of 8 bits below 4, the two bits in a whole byte, is read as one too, and a
larger one as none (log 7). -/
def codesOfWidth (nbits w : Nat) : List Code :=
  if nbits = 16 then [.req (BitVec.ofNat 16 w), .reqMode (BitVec.ofNat 16 w), .reqFan (BitVec.ofNat 16 w)]
  else if nbits = 24 then
    [.frame (BitVec.ofNat 24 w), .frameFan (BitVec.ofNat 24 w), .frameState (BitVec.ofNat 24 w),
     .frameTemp (BitVec.ofNat 24 w), .frameMode (BitVec.ofNat 24 w)]
  else if (nbits = 8 || nbits = 2) && decide (w < 4) then [.res (BitVec.ofNat 2 w)]
  else []

/-- The instruction of a code whose word has no bit set outside the instruction's own encoding. -/
def decodeExact (c : Code) : Option Instr :=
  match decode c with
  | .ok i => if encode i = some c then some i else none
  | .error _ => none

/-- The instruction of a table word: the first format of its width, in the table's order, that accepts it.
Every 16-bit word is a request (R90); a 24-bit word with byte 0 = 0xB2 is a FRAME and any other 24-bit word is the
word of one nibble row or nothing. Log 7. -/
def decodeTableWord (nbits w : Nat) : Option Instr :=
  if w < 2 ^ nbits then (codesOfWidth nbits w).findSome? decodeExact else none

end Sys2Proof
end

