-- ==== Sys2Proof/Machine/Tables.lean ====
section
/-! DEFINITION. The constants the source fixes (spec/00_scope.md R6) and the three read-only tables with their
one read primitive (spec/20_memory.md R50 to R53, R56; 00_scope.md R9). -/

namespace Sys2Proof.Machine

/-! ## Constants (R6) -/

/-- `MAGIC`, byte 0 of every frame. -/
def magic : Byte := 0xB2
/-- `T_MIN`. -/
abbrev tMin : Int := 17
/-- `T_MAX`. -/
abbrev tMax : Int := 30
/-- `HDR_MARK`, in units of `U`. -/
abbrev hdrMark : Nat := 8
/-- `HDR_SPACE`. -/
abbrev hdrSpace : Nat := 8
/-- `BIT_MARK`, of every data bit and of the stop bit. -/
abbrev bitMark : Nat := 1
/-- `ONE_SPACE`. -/
abbrev oneSpace : Nat := 3
/-- `ZERO_SPACE`. -/
abbrev zeroSpace : Nat := 1
/-- `GAP`. -/
abbrev gap : Nat := 8
/-- `REP_LEN`. -/
abbrev repLen : Nat := 99
/-- `TRAIN_LEN` (C1). -/
abbrev trainLen : Nat := 199
/-- `MIN_DELAY`, ms. -/
abbrev minDelay : Nat := 2000
/-- `NIB_ON`. -/
def nibOn : Nibble := 0b1111
/-- `NIB_OFF`. -/
def nibOff : Nibble := 0b1011
/-- `NIB_TEMP_OFF`, the temperature-nibble sentinel. -/
def nibTempOff : Nibble := 0b1110

/-! ## Tables -/

/-- `TAB_TEMP`, index `temp - 17`; the 14 literals verbatim (R51). -/
def tabTemp : List Nibble :=
  [0b0000, 0b0001, 0b0011, 0b0010, 0b0110, 0b0111, 0b0101,
   0b0100, 0b1100, 0b1101, 0b1001, 0b1000, 0b1010, 0b1011]

/-- `TAB_MODE`, index the mode code (R52). -/
def tabMode : List Nibble := [0b0000, 0b1100, 0b1000, 0b0100, 0b0010]

/-- `TAB_FAN`, index the fan code (R53). -/
def tabFan : List Nibble := [0b1011, 0b1001, 0b0101, 0b0011]

/-- `MemRead(T, i)` (R9): an index outside the table reads no value (R56 b). -/
def memRead (T : List Nibble) (i : Int) : Option Nibble :=
  if 0 ≤ i then T[i.toNat]? else none

/-! ## Storage codes (R22) -/

/-- The storage code of a mode, also its recognized token and its index into `TAB_MODE`. -/
def modeCode : Mode → BitVec 3
  | .cool => 0
  | .heat => 1
  | .auto => 2
  | .fan => 3
  | .dry => 4

/-- The storage code of a fan speed, also its recognized token and its index into `TAB_FAN`. -/
def fanCode : Fan → BitVec 2
  | .auto => 0
  | .low => 1
  | .medium => 2
  | .high => 3

/-- The mode of a token, `none` for the unrecognized tokens 5, 6, 7 (R82). -/
def modeOfToken (tok : BitVec 3) : Option Mode :=
  match tok.toNat with
  | 0 => some .cool
  | 1 => some .heat
  | 2 => some .auto
  | 3 => some .fan
  | 4 => some .dry
  | _ => none

/-- The fan speed of a token, `none` for the unrecognized tokens 4 to 15 (R83). -/
def fanOfToken (tok : BitVec 4) : Option Fan :=
  match tok.toNat with
  | 0 => some .auto
  | 1 => some .low
  | 2 => some .medium
  | 3 => some .high
  | _ => none

end Sys2Proof.Machine
end

