-- ==== Sys2Proof/Machine/Operands.lean ====
section
/-! DEFINITION. The pure sub-operations of SEND, in the order data flows through them (spec/30_encoding.md R89):
the Command Normalizer (40_normalize.md), the Nibble Mapper and the Frame Builder (41_nibble_frame.md), the Pulse
Train Encoder (42_pulse_train.md section 1). None of them reads a register that is not an argument, none writes. -/

namespace Sys2Proof.Machine

/-! ## Command Normalizer -/

/-- CLAMP (R111): on mathematical integers, so a negative request clamps to 17. -/
def clampTemp (t : Int) : Temp :=
  BitVec.ofInt 5 (if t < tMin then tMin else if tMax < t then tMax else t)

/-- FALLBACK_MODE (R112): a recognized token, else the stored mode. -/
def fallbackMode (tok : BitVec 3) (stored : Mode) : Mode :=
  (modeOfToken tok).getD stored

/-- FALLBACK_FAN (R112): a recognized token, else the stored fan speed. -/
def fallbackFan (tok : BitVec 4) (stored : Fan) : Fan :=
  (fanOfToken tok).getD stored

/-- NORMALIZE (R110): reads the mode and the fan of the stored command, nothing else (R21). -/
def normalizeRequest (r : Request) (st : Command) : Command :=
  { power := r.power
    temp  := clampTemp r.temperature.toInt
    mode  := fallbackMode r.modeTok st.mode
    fan   := fallbackFan r.fanTok st.fan }

/-! ## Nibble Mapper -/

/-- MAPTEMP (R130). -/
def mapTemp (temp : Temp) : Option Nibble := memRead tabTemp (temp.toNat - tMin)

/-- MAPMODE (R131). -/
def mapMode (mode : Mode) : Option Nibble := memRead tabMode (modeCode mode).toNat

/-- MAPFAN (R132). -/
def mapFan (fan : Fan) : Option Nibble := memRead tabFan (fanCode fan).toNat

/-- MAPSTATE (R133). -/
def mapState (power : Bool) : Nibble := if power then nibOn else nibOff

/-- TEMPNIB, the power-off override (R134). -/
def tempNibble (power : Bool) (temp : Temp) : Option Nibble :=
  if power then mapTemp temp else some nibTempOff

/-! ## Frame Builder -/

/-- `(high << 4) | low` (R8, R135). -/
def packNibbles (high low : Nibble) : Byte := (high.setWidth 8 <<< 4) ||| low.setWidth 8

/-- The frame of four nibbles behind the magic byte (R54, R84). -/
def frameOfNibbles (fan state temp mode : Nibble) : Frame :=
  { byte0 := magic, byte1 := packNibbles fan state, byte2 := packNibbles temp mode }

/-- FRAME (R135); `none` only if a table read has no value, which no canonical command gives (R113). -/
def frameOf (c : Command) : Option Frame :=
  match mapFan c.fan, tempNibble c.power c.temp, mapMode c.mode with
  | some fan, some temp, some mode => some (frameOfNibbles fan (mapState c.power) temp mode)
  | _, _, _ => none

/-- The 24-bit view of a frame (R54): notation only. -/
def frame24 (f : Frame) : BitVec 24 := 
  (f.byte0.setWidth 24 <<< 16) ||| (f.byte1.setWidth 24 <<< 8) ||| f.byte2.setWidth 24

/-! ## Decoding a frame back (R94) -/

/-- What a frame says of the command it was built from: no temperature when power is off (R94). -/
structure FrameView where
  power : Bool
  temp  : Option Temp
  mode  : Mode
  fan   : Fan
  deriving DecidableEq, Repr, Inhabited

/-- The fan speed of a fan nibble: `TAB_FAN` inverted (R94). -/
def fanOfNibble (n : Nibble) : Option Fan :=
  [Fan.auto, .low, .medium, .high].find? fun f => mapFan f == some n

/-- The mode of a mode nibble: `TAB_MODE` inverted (R94). -/
def modeOfNibble (n : Nibble) : Option Mode :=
  [Mode.cool, .heat, .auto, .fan, .dry].find? fun m => mapMode m == some n

/-- The temperature of a temperature nibble: `TAB_TEMP` inverted (R94). -/
def tempOfNibble (n : Nibble) : Option Temp :=
  ((List.range 14).map fun i => BitVec.ofNat 5 (17 + i)).find? fun t => mapTemp t == some n

/-- The frame decoder of R94: checks the magic byte, reads the state nibble, inverts the three tables, and with
power off requires the sentinel 1110. It refuses (`none`) every frame the block never sends (R91 d, U15). -/
def decodeFrame (f : Frame) : Option FrameView :=
  let stateNib := f.byte1.extractLsb' 0 4
  let tempNib := f.byte2.extractLsb' 4 4
  if f.byte0 ≠ magic then none else
  match fanOfNibble (f.byte1.extractLsb' 4 4), modeOfNibble (f.byte2.extractLsb' 0 4) with
  | some fan, some mode =>
    if stateNib = nibOn then
      match tempOfNibble tempNib with
      | some temp => some { power := true, temp := some temp, mode := mode, fan := fan }
      | none => none
    else if stateNib = nibOff && tempNib = nibTempOff then
      some { power := false, temp := none, mode := mode, fan := fan }
    else none
  | _, _ => none

/-! ## Pulse Train Encoder; durations in units of `U` -/

/-- SYM (R150). -/
def symDurations (b : Bool) : List Nat := if b then [bitMark, oneSpace] else [bitMark, zeroSpace]

/-- ENCBYTE (R151): most significant bit first. -/
def encByte (b : Byte) : List Nat :=
  symDurations (b.getLsbD 7) ++ symDurations (b.getLsbD 6) ++ symDurations (b.getLsbD 5)
    ++ symDurations (b.getLsbD 4) ++ symDurations (b.getLsbD 3) ++ symDurations (b.getLsbD 2)
    ++ symDurations (b.getLsbD 1) ++ symDurations (b.getLsbD 0)

/-- ENCPAIR (R152): a byte, then its complement. -/
def encPair (b : Byte) : List Nat := encByte b ++ encByte (~~~b)

/-- REP (R153): header, three pairs, stop mark. -/
def repOf (f : Frame) : List Nat :=
  [hdrMark, hdrSpace] ++ encPair f.byte0 ++ encPair f.byte1 ++ encPair f.byte2 ++ [bitMark]

/-- TRAIN (R154): repetition, gap, repetition. -/
def trainOf (f : Frame) : List Nat := repOf f ++ [gap] ++ repOf f

/-- Frame byte `m`, for `m` in 0, 1, 2. -/
def frameByte (f : Frame) (m : Nat) : Byte :=
  match m with
  | 0 => f.byte0
  | 1 => f.byte1
  | _ => f.byte2

/-- Encoded byte `e` of a repetition, for `e` in 0..5: even ones are frame bytes, odd ones complements (R152). -/
def encodedByte (f : Frame) (e : Nat) : Byte :=
  if e % 2 = 1 then ~~~(frameByte f (e / 2)) else frameByte f (e / 2)

/-- DUR's closed form (R157), for `k` in 0..198. -/
def slotDur (f : Frame) (k : Nat) : Nat :=
  if k = 99 then gap
  else
    let j := if k < 99 then k else k - 100
    if j = 0 then hdrMark
    else if j = 1 then hdrSpace
    else if j = 98 then bitMark
    else
      let q := j - 2
      let e := q / 16
      let i := (q % 16) / 2
      if q % 2 = 0 then bitMark
      else if (encodedByte f e).getLsbD (7 - i) then oneSpace else zeroSpace

/-- DUR (R157); there is no slot 199 (V23). -/
def dur? (f : Frame) (k : Nat) : Option Nat :=
  if k < trainLen then some (slotDur f k) else none

/-- The list the sink receives: `durations[k] = U * DUR(F, k)` (R158). -/
def sinkDurations (u : Nat) (f : Frame) : List Nat := (trainOf f).map (u * ·)

/-! ## Time -/

/-- GUARD (R181): the elapsed time modulo 2^32, compared unsigned with `MIN_DELAY`. -/
def guardPasses (t0 lastTx : Time) : Bool := decide (minDelay ≤ (t0 - lastTx).toNat)

end Sys2Proof.Machine
end

