-- ==== Sys2Proof/Machine/State.lean ====
section
/-! DEFINITION. The machine's state as plain data, the reasons a step can stop, and the state after reset
(spec/10_state.md R20 to R32, 30_encoding.md R80, 70_reset_and_hazards.md R250). -/

namespace Sys2Proof.Machine

/-- The stored phase (R25): BUSY while a SEND is between acceptance and the sink's answer. -/
inductive Phase where
  | ready | busy
  deriving DecidableEq, Repr, Inhabited

/-- The outcome of a SEND (R211). -/
inductive Result where
  | ok | rateLimited | txFailed
  deriving DecidableEq, Repr, Inhabited

/-- The call to the Transmission Sink: `transmit(durations, carrier_hz)` (R86, R184). -/
structure SinkCall where
  durations : List Nat
  carrierHz : Nat
  deriving DecidableEq, Repr, Inhabited

/-- The confirmation record (R87, R218); `state` is "on" when `stateOn`. -/
structure Confirmation where
  stateOn     : Bool
  temperature : Temp
  mode        : Mode
  fanSpeed    : Fan
  confirmed   : Bool
  timestamp   : Time
  deriving DecidableEq, Repr, Inhabited

/-- The one-step outputs of R80: an absent value is a valid bit that is 0. `busy`, `env` and `carrier_hz` are
continuously driven and computed in Flags.lean. -/
structure Outputs where
  txStart : Option SinkCall
  res     : Option Result
  fb      : Option Bool
  conf    : Option Confirmation
  deriving DecidableEq, Repr, Inhabited

/-- No event. -/
def Outputs.none : Outputs := { txStart := .none, res := .none, fb := .none, conf := .none }

/-- The input ports of R80 and the tick of R160 at one step, with two fields of the model's own:
`txStale` (log 6) and `probe` (log 7). -/
structure Ports where
  rst      : Bool
  reqValid : Bool
  req      : BitVec 16
  now      : Time
  tick     : Bool
  txDone   : Bool
  txOk     : Bool
  /-- This answer is for a call that a reset abandoned (R251). -/
  txStale  : Bool
  /-- A word of a format other than REQ, presented for evaluation: its width and value. -/
  probe    : Option (Nat × Nat)
  deriving DecidableEq, Repr, Inhabited

/-- Nothing presented; the time source shows `now`. -/
def Ports.idle (now : Time) : Ports :=
  { rst := false, reqValid := false, req := 0, now := now, tick := false, txDone := false, txOk := false,
    txStale := false, probe := .none }

/-- The four nibble fields of a frame word (R84). -/
inductive NibbleField where
  | fan | state | temp | mode
  deriving DecidableEq, Repr, Inhabited

/-- The result of a pure sub-operation or of a format row evaluated alone (log 5). -/
inductive SubResult where
  | none
  | command (c : Command)
  | temp (t : Temp)
  | mode (m : Mode)
  | fan (f : Fan)
  | tokens (m : Mode) (f : Fan)
  | nibble (n : Nibble)
  /-- A nibble in its field of the frame. -/
  | fieldNibble (field : NibbleField) (n : Nibble)
  /-- A frame. -/
  | frame (f : Frame)
  /-- A frame and what R94's decoder says of it. -/
  | frameWord (f : Frame) (view : Option FrameView)
  /-- A mark and a space, either of which may be absent, in units of `U`. -/
  | symbol (mark space : Option Nat)
  /-- Durations in units of `U`. -/
  | durations (ds : List Nat)
  | duration (d : Nat)
  | bool (b : Bool)
  deriving DecidableEq, Repr, Inhabited

/-- The complete state (R20), the configuration (R26), the ports (R80) and the model's own fields. -/
structure State where
  /-- The OPEN parameters (R7); written by nothing. -/
  cfg    : Params
  /-- DeviceState (R21). -/
  st     : Command
  /-- Timestamp of the last successful transmission (R24). -/
  lastTx : Time
  /-- READY or BUSY (R25). -/
  phase  : Phase
  /-- `c_lat`, the command of the SEND in flight (R20, R162). -/
  cLat   : Command
  /-- `F_lat`, the frame of the SEND in flight (R20, R162). -/
  fLat   : Frame
  /-- `k`, the slot index, 0..199 (R27). -/
  k      : Nat
  /-- `t`, duration units left in slot `k`, 0..8U (R20). -/
  t      : Nat
  /-- The input ports at this step. -/
  ports  : Ports
  /-- What the environment presents at the steps after this one, the next first (log 1). -/
  later  : List Ports
  /-- The one-step outputs driven by the last step. -/
  out    : Outputs
  /-- The last value of a sub-operation evaluated alone (log 5). -/
  sub    : SubResult
  /-- How many free values have been drawn (log 4). -/
  free   : Nat
  deriving DecidableEq, Repr, Inhabited

/-- Why the machine stops. -/
inductive Fault where
  /-- Raised by the meanings that read a table outside its entries (R56 b, U17); no canonical command does. Safe. -/
  | tableIndex
  /-- Raised by DUR at a slot index above 198, which is not defined (R157, V23). Safe. -/
  | slotIndex
  /-- Raised by FINISH when the sink answers while `k < 199` (R164, U7): the model has no step. Safe. -/
  | sinkAnswerEarly
  /-- Raised by START, ACCEPT, REJECT, TRANSMIT, FAIL and COMMIT run alone where R187 has no such transition. Safe. -/
  | notEnabled
  deriving DecidableEq, Repr

/-- Why a step has no meaning. -/
inductive Refusal where
  /-- Raised by `exec` for an instruction that has no meaning yet: none. Safe. -/
  | notModelled (mnemonic : String)
  /-- Raised by `step` for a word on the evaluation port that no format of the table accepts. Safe. -/
  | undecodable (why : Reject)
  deriving DecidableEq, Repr

/-- The parameters of State.reset: the spec's defaults for `RST_*` (R7, log 3) and spec/93 G1's candidate for `U`
and `CARRIER_HZ` (log 2). -/
def defaultParams : Params :=
  { u := 553, carrierHz := 38000, rst := { power := false, temp := 24, mode := .cool, fan := .auto }, rstLastTx := 0 }

/-- The state right after reset for given parameters (R32, R250), nothing presented. -/
def State.resetWith (p : Params) : State :=
  { cfg := p, st := p.rst, lastTx := p.rstLastTx, phase := .ready,
    cLat := { power := false, temp := 0, mode := .cool, fan := .auto },
    fLat := { byte0 := 0, byte1 := 0, byte2 := 0 }, k := 0, t := 0,
    ports := Ports.idle 0, later := [], out := Outputs.none, sub := .none, free := 0 }

/-- The machine right after reset. -/
def State.reset : State := State.resetWith defaultParams

end Sys2Proof.Machine
end

