-- ==== Sys2Proof/Machine/Flags.lean ====
section
/-! DEFINITION. The status outputs (spec/10_state.md R28), the signal form of the output records
(30_encoding.md R87, R88) and the predicates the state machine of 43_rate_limiter.md R187 is written with. -/

namespace Sys2Proof.Machine

/-- `busy` (R28). -/
def State.busy (s : State) : Bool := s.phase == .busy

/-- `env`, the envelope: 1 exactly when BUSY, `k < 199` and `k` even (R28, R161). -/
def State.env (s : State) : Bool := s.phase == .busy && decide (s.k < trainLen) && decide (s.k % 2 = 0)

/-- `carrier_hz`, valid always (R80, R156). -/
def State.carrierHz (s : State) : Nat := s.cfg.carrierHz

/-- `res_code` (R88, R211). -/
def Result.code : Result → BitVec 2
  | .ok => 0
  | .rateLimited => 1
  | .txFailed => 2

/-- `conf[15:0]`, in the layout of the request word (R87). -/
def Confirmation.word (c : Confirmation) : BitVec 16 :=
  packRequest { temperature := c.temperature.setWidth 8, power := c.stateOn,
                modeTok := modeCode c.mode, fanTok := (fanCode c.fanSpeed).setWidth 4 }

/-- `conf_ts[31:0]` (R87). -/
def Confirmation.ts (c : Confirmation) : Time := c.timestamp

/-- The confirmation of a committed command (R218). -/
def confirmationOf (c : Command) (t1 : Time) : Confirmation :=
  { stateOn := c.power, temperature := c.temp, mode := c.mode, fanSpeed := c.fan, confirmed := true, timestamp := t1 }

/-- GUARD on the ports' time (R181): Idle/Ready when true, Cooldown when false (R187). -/
def State.guardNow (s : State) : Bool := guardPasses s.ports.now s.lastTx

/-- The sink's answer to the call in flight is present (R164); an answer to an abandoned call is not (R251). -/
def State.answered (s : State) : Bool := s.ports.txDone && !s.ports.txStale

/-- ACCEPT is enabled: READY and GUARD true (R182, R187). -/
def State.acceptEnabled (s : State) : Bool := s.phase == .ready && s.guardNow

/-- REJECT is enabled: READY and GUARD false (R183, R187). -/
def State.rejectEnabled (s : State) : Bool := s.phase == .ready && !s.guardNow

/-- The call to the sink is due: BUSY, in the step of START, no tick counted yet (R162, R182). -/
def State.callDue (s : State) : Bool :=
  s.phase == .busy && decide (s.k = 0) && decide (s.t = s.cfg.u * hdrMark)

/-- The train is finished and the sink has answered (R164). -/
def State.answerDue (s : State) : Bool := s.phase == .busy && decide (trainLen ≤ s.k) && s.answered

end Sys2Proof.Machine
end

