-- ==== Sys2Proof/Machine/Ops.lean ====
section
/-! DEFINITION. The named operations over the state that the meanings share: what raising an outcome does (the
block's only exception mechanism, spec/60_exceptions.md R214), the sequencer (42_pulse_train.md R162 to R164),
the rate limiter's steps (43_rate_limiter.md R180 to R186), reset (70_reset_and_hazards.md R250), and what a step
does around an operation. -/

namespace Sys2Proof.Machine

/-- The outcome type of a meaning. -/
abbrev Exec := Host.Outcome State Fault Refusal

/-! ## Results of operations evaluated alone -/

/-- Put the value of a pure operation on the model's `sub` (log 5); nothing else changes. -/
def State.setSub (s : State) (r : SubResult) : State := { s with sub := r }

/-- A pure operation that may read a table: no value is a fault (R56 b). -/
def ofTable (r : Option SubResult) (s : State) : Exec :=
  match r with
  | some v => .next (s.setSub v)
  | none => .fault .tableIndex

/-! ## Raising (R214, R215) -/

/-- `raise X` and the feedback before it: `res_code` of X with `res_valid`, feedback false, the SEND ends and the
block is READY. Nothing is saved and no other register is written; there is no return operation (R215). -/
def State.raiseOutcome (s : State) (x : Result) : State :=
  { s with phase := .ready, out := { s.out with res := some x, fb := some false } }

/-! ## The sequencer -/

/-- START's register writes (R162). -/
def State.startTrain (s : State) (c : Command) (f : Frame) : State :=
  { s with cLat := c, fLat := f, k := 0, t := s.cfg.u * slotDur f 0, phase := .busy }

/-- START of a command: no table value is a fault (R56 b). -/
def startCommand (c : Command) (s : State) : Exec :=
  match frameOf c with
  | some f => .next (s.startTrain c f)
  | none => .fault .tableIndex

/-- The last unit of a slot ends: the next slot, or the end of the train (R163). -/
def State.nextSlot (s : State) : State :=
  match dur? s.fLat (s.k + 1) with
  | some d => { s with k := s.k + 1, t := s.cfg.u * d }
  | none => { s with k := s.k + 1, t := 0 }

/-- TICK (R163): nothing while READY or when the train is finished. -/
def State.tickTimer (s : State) : State :=
  if s.phase = .busy ∧ s.k < trainLen then
    if 1 < s.t then { s with t := s.t - 1 } else s.nextSlot
  else s

/-! ## The sink call and the ends of a SEND -/

/-- TRANSMIT (R184): the call, with the whole train of the latched frame (R86, R158). -/
def State.callSink (s : State) : State :=
  { s with out := { s.out with txStart := some { durations := sinkDurations s.cfg.u s.fLat,
                                                 carrierHz := s.cfg.carrierHz } } }

/-- COMMIT (R186): the five writes in one step, then confirmation, feedback and outcome. -/
def State.commitSend (s : State) : State :=
  { s with st := s.cLat, lastTx := s.ports.now, phase := .ready,
           out := { s.out with res := some .ok, fb := some true,
                               conf := some (confirmationOf s.cLat s.ports.now) } }

/-- ACCEPT (R182): normalize, build the frame, START, call the sink, in one step (R261 b). -/
def acceptRequest (r : Request) (s : State) : Exec :=
  match startCommand (normalizeRequest r s.st) s with
  | .next s' => .next s'.callSink
  | .fault f => .fault f
  | .refused x => .refused x

/-- SEND (R180) at the step a request is presented: not taken while BUSY (R188), rejected or accepted while READY. -/
def sendRequest (r : Request) (s : State) : Exec :=
  match s.phase with
  | .busy => .next s
  | .ready => if s.guardNow then acceptRequest r s else .next (s.raiseOutcome .rateLimited)

/-- FINISH (R164): waits without an answer, ignores an answer while READY (R251), has no step for an early one. -/
def finishSend (s : State) : Exec :=
  if s.phase = .ready ∨ s.answered = false then .next s
  else if s.k < trainLen then .fault .sinkAnswerEarly
  else if s.ports.txOk then .next s.commitSend
  else .next (s.raiseOutcome .txFailed)

/-! ## Reset -/

/-- The reset event (R250, R251): in any phase, the values of R32, no event. `c_lat` and `F_lat` are unspecified
afterwards: free values (log 4). -/
def State.resetBlock (s : State) : State :=
  { s with st := s.cfg.rst, lastTx := s.cfg.rstLastTx, phase := .ready, k := 0, t := 0,
           cLat := Config.freeCommand s.free, fLat := Config.freeFrame s.free, free := s.free + 1,
           out := Outputs.none, sub := .none }

/-! ## What a step does around an operation -/

/-- The one-step outputs end. -/
def State.clearEvents (s : State) : State := { s with out := Outputs.none }

/-- The ports at the next step: what the environment presents next, or nothing with the time unchanged. -/
def State.advance (s : State) : State :=
  match s.later with
  | [] => { s with ports := Ports.idle s.ports.now }
  | p :: ps => { s with ports := p, later := ps }

/-- What the ports make a step do. -/
inductive Selection where
  | idle
  | run (i : Instr)
  | reject (why : Reject)
  deriving DecidableEq, Repr

/-- The operation of a presented request word: the decoder of format REQ, which never fails (R90). -/
def selectRequest (s : State) : Selection :=
  match decode (.req s.ports.req) with
  | .ok i => .run i
  | .error e => .reject e

/-- The operation of a word on the evaluation port: no request, which has a port of its own (R80). Log 7. -/
def selectProbe (s : State) : Selection :=
  match s.ports.probe with
  | none => .idle
  | some (nbits, w) =>
    match (if nbits = 16 then none else decodeTableWord nbits w) with
    | some i => .run i
    | none => .reject .noFormat

/-- The operation a step runs. Reset comes first (R250); in BUSY the answer of the call in flight (R164), then a
tick (R163), then a request, which is not taken (R188); in READY a request (R188), then a tick, which changes
nothing (R163). Log 8. -/
def State.select (s : State) : Selection :=
  if s.ports.rst then .run .reset
  else match s.phase with
    | .busy =>
      if s.answered then .run .finish
      else if s.ports.tick then .run .tick
      else if s.ports.reqValid then selectRequest s
      else selectProbe s
    | .ready =>
      if s.ports.reqValid then selectRequest s
      else if s.ports.tick then .run .tick
      else selectProbe s

end Sys2Proof.Machine
end

