-- ==== Sys2Proof/Machine/FrameWord.lean ====
section
/-! DEFINITION. The frame word and the value of each of its nibbles: formats FRAME, FRAME.fan, FRAME.state, FRAME.temp and
FRAME.mode (spec/30_encoding.md R84; 41_nibble_frame.md R130 to R135). -/

namespace Sys2Proof.Machine

/-- A nibble the block puts in a field of the frame; no table value is a fault (R56 b). -/
def nibbleRow (field : NibbleField) (n : Option Nibble) (s : State) : Exec :=
  ofTable (n.map (.fieldNibble field)) s

/-- FRAME: the frame word of four nibbles behind the magic byte (R84, R135), with what R94's decoder says of it. -/
def execFrame (fan state temp mode : Nibble) (s : State) : Exec := 
  .next (s.setSub (.frameWord (frameOfNibbles fan state temp mode) (decodeFrame (frameOfNibbles fan state temp mode))))

/-- FANNIB.AUTO: `F[15:12]` of fan speed AUTO (R132). -/
def execFannibAuto (s : State) : Exec := nibbleRow .fan (mapFan .auto) s

/-- FANNIB.LOW: `F[15:12]` of fan speed LOW (R132). -/
def execFannibLow (s : State) : Exec := nibbleRow .fan (mapFan .low) s

/-- FANNIB.MEDIUM: `F[15:12]` of fan speed MEDIUM (R132). -/
def execFannibMedium (s : State) : Exec := nibbleRow .fan (mapFan .medium) s

/-- FANNIB.HIGH: `F[15:12]` of fan speed HIGH (R132). -/
def execFannibHigh (s : State) : Exec := nibbleRow .fan (mapFan .high) s

/-- STATENIB.ON: `F[11:8]` with power on (R133). -/
def execStatenibOn (s : State) : Exec := nibbleRow .state (some (mapState true)) s

/-- STATENIB.OFF: `F[11:8]` with power off (R133). -/
def execStatenibOff (s : State) : Exec := nibbleRow .state (some (mapState false)) s

/-- TEMPNIB.17: `F[7:4]` with power on and 17 degrees (R130, R134). -/
def execTempnib17 (s : State) : Exec := nibbleRow .temp (tempNibble true 17) s

/-- TEMPNIB.18: `F[7:4]` with power on and 18 degrees (R130, R134). -/
def execTempnib18 (s : State) : Exec := nibbleRow .temp (tempNibble true 18) s

/-- TEMPNIB.19: `F[7:4]` with power on and 19 degrees (R130, R134). -/
def execTempnib19 (s : State) : Exec := nibbleRow .temp (tempNibble true 19) s

/-- TEMPNIB.20: `F[7:4]` with power on and 20 degrees (R130, R134). -/
def execTempnib20 (s : State) : Exec := nibbleRow .temp (tempNibble true 20) s

/-- TEMPNIB.21: `F[7:4]` with power on and 21 degrees (R130, R134). -/
def execTempnib21 (s : State) : Exec := nibbleRow .temp (tempNibble true 21) s

/-- TEMPNIB.22: `F[7:4]` with power on and 22 degrees (R130, R134). -/
def execTempnib22 (s : State) : Exec := nibbleRow .temp (tempNibble true 22) s

/-- TEMPNIB.23: `F[7:4]` with power on and 23 degrees (R130, R134). -/
def execTempnib23 (s : State) : Exec := nibbleRow .temp (tempNibble true 23) s

/-- TEMPNIB.24: `F[7:4]` with power on and 24 degrees (R130, R134). -/
def execTempnib24 (s : State) : Exec := nibbleRow .temp (tempNibble true 24) s

/-- TEMPNIB.25: `F[7:4]` with power on and 25 degrees (R130, R134). -/
def execTempnib25 (s : State) : Exec := nibbleRow .temp (tempNibble true 25) s

/-- TEMPNIB.26: `F[7:4]` with power on and 26 degrees (R130, R134). -/
def execTempnib26 (s : State) : Exec := nibbleRow .temp (tempNibble true 26) s

/-- TEMPNIB.27: `F[7:4]` with power on and 27 degrees (R130, R134). -/
def execTempnib27 (s : State) : Exec := nibbleRow .temp (tempNibble true 27) s

/-- TEMPNIB.28: `F[7:4]` with power on and 28 degrees (R130, R134). -/
def execTempnib28 (s : State) : Exec := nibbleRow .temp (tempNibble true 28) s

/-- TEMPNIB.29: `F[7:4]` with power on and 29 degrees (R130, R134). -/
def execTempnib29 (s : State) : Exec := nibbleRow .temp (tempNibble true 29) s

/-- TEMPNIB.30: `F[7:4]` with power on and 30 degrees (R130, R134). -/
def execTempnib30 (s : State) : Exec := nibbleRow .temp (tempNibble true 30) s

/-- TEMPNIB.OFF: the sentinel in `F[7:4]` with power off, whatever the temperature (R134). -/
def execTempnibOff (s : State) : Exec := nibbleRow .temp (tempNibble false s.st.temp) s

/-- MODENIB.COOL: `F[3:0]` of mode COOL (R131). -/
def execModenibCool (s : State) : Exec := nibbleRow .mode (mapMode .cool) s

/-- MODENIB.HEAT: `F[3:0]` of mode HEAT (R131). -/
def execModenibHeat (s : State) : Exec := nibbleRow .mode (mapMode .heat) s

/-- MODENIB.AUTO: `F[3:0]` of mode AUTO (R131). -/
def execModenibAuto (s : State) : Exec := nibbleRow .mode (mapMode .auto) s

/-- MODENIB.FAN: `F[3:0]` of mode FAN (R131). -/
def execModenibFan (s : State) : Exec := nibbleRow .mode (mapMode .fan) s

/-- MODENIB.DRY: `F[3:0]` of mode DRY (R131). -/
def execModenibDry (s : State) : Exec := nibbleRow .mode (mapMode .dry) s

end Sys2Proof.Machine
end

