-- ==== Sys2Proof/Machine/Mapper.lean ====
section
/-! DEFINITION. The Nibble Mapper and the Frame Builder (spec/41_nibble_frame.md). -/

namespace Sys2Proof.Machine

/-- MAPTEMP (R130). -/
def execMaptemp (temp : Temp) (s : State) : Exec := ofTable ((mapTemp temp).map .nibble) s

/-- MAPMODE (R131). -/
def execMapmode (mode : Mode) (s : State) : Exec := ofTable ((mapMode mode).map .nibble) s

/-- MAPFAN (R132). -/
def execMapfan (fan : Fan) (s : State) : Exec := ofTable ((mapFan fan).map .nibble) s

/-- MAPSTATE (R133). -/
def execMapstate (power : Bool) (s : State) : Exec := .next (s.setSub (.nibble (mapState power)))

/-- TEMPNIB (R134). -/
def execTempnib (power : Bool) (temp : Temp) (s : State) : Exec := ofTable ((tempNibble power temp).map .nibble) s

/-- FRAME.BUILD: the FRAME operation (R135). -/
def execFrameBuild (c : Command) (s : State) : Exec := ofTable ((frameOf c).map .frame) s

end Sys2Proof.Machine
end

