-- ==== Sys2Proof/Machine/Normalizer.lean ====
section
/-! DEFINITION. NORMALIZE, CLAMP and TOKEN_FALLBACK (spec/40_normalize.md). -/

namespace Sys2Proof.Machine

/-- NORMALIZE (R110): the CanonicalCommand of a request word and the stored mode and fan. -/
def execNormalize (req : BitVec 16) (s : State) : Exec := 
  .next (s.setSub (.command (normalizeRequest (splitRequest req) s.st)))

/-- CLAMP (R111). -/
def execClamp (t : Int) (s : State) : Exec := .next (s.setSub (.temp (clampTemp t)))

/-- TOKEN_FALLBACK: FALLBACK_MODE and FALLBACK_FAN, independently (R112). -/
def execTokenFallback (modeTok : BitVec 3) (fanTok : BitVec 4) (s : State) : Exec := 
  .next (s.setSub (.tokens (fallbackMode modeTok s.st.mode) (fallbackFan fanTok s.st.fan)))

end Sys2Proof.Machine
end

