-- ==== Sys2Proof/Machine/OutcomeCode.lean ====
section
/-! DEFINITION. The three outcome codes: format RES (spec/30_encoding.md R88; 60_exceptions.md R211, R220). -/

namespace Sys2Proof.Machine

/-- An outcome code on `res_code` with `res_valid` (R220); nothing else changes. -/
def outcomeRow (x : Result) (s : State) : Exec := .next { s with out := { s.out with res := some x } }

/-- OUTCOME.OK: code 0 (R211). -/
def execOutcomeOk (s : State) : Exec := outcomeRow .ok s

/-- OUTCOME.RATE_LIMITED: code 1 (R211). -/
def execOutcomeRateLimited (s : State) : Exec := outcomeRow .rateLimited s

/-- OUTCOME.TX_FAILED: code 2 (R211). -/
def execOutcomeTxFailed (s : State) : Exec := outcomeRow .txFailed s

end Sys2Proof.Machine
end

