-- ==== Sys2Proof/Machine/RateLimiter.lean ====
section
/-! DEFINITION. The parts of SEND (spec/43_rate_limiter.md R181 to R186), each in the states where R187 has its transition. -/

namespace Sys2Proof.Machine

/-- GUARD of a time (R181): reads `lastTx`. -/
def execGuard (t0 : Time) (s : State) : Exec := .next (s.setSub (.bool (guardPasses t0 s.lastTx)))

/-- ACCEPT of a request word (R182). -/
def execAccept (req : BitVec 16) (s : State) : Exec := 
  if s.acceptEnabled then acceptRequest (splitRequest req) s else .fault .notEnabled

/-- REJECT (R183). -/
def execReject (s : State) : Exec := 
  if s.rejectEnabled then .next (s.raiseOutcome .rateLimited) else .fault .notEnabled

/-- TRANSMIT, the call; its answer comes at FINISH (R184). -/
def execTransmit (s : State) : Exec := 
  if s.callDue then .next s.callSink else .fault .notEnabled

/-- FAIL (R185): the sink has answered failure. -/
def execFail (s : State) : Exec := 
  if s.answerDue && !s.ports.txOk then .next (s.raiseOutcome .txFailed) else .fault .notEnabled

/-- COMMIT (R186): the sink has answered success. -/
def execCommit (s : State) : Exec := 
  if s.answerDue && s.ports.txOk then .next s.commitSend else .fault .notEnabled

end Sys2Proof.Machine
end

