-- ==== Sys2Proof/Machine/Reset.lean ====
section
/-! DEFINITION. The reset event (spec/70_reset_and_hazards.md). -/

namespace Sys2Proof.Machine

/-- RESET (R250, R251). -/
def execReset (s : State) : Exec := .next s.resetBlock

end Sys2Proof.Machine
end

