-- ==== Sys2Proof/Machine/Send.lean ====
section
/-! DEFINITION. SEND.ON and SEND.OFF (spec/43_rate_limiter.md R180): format REQ, bit 7 the power field (R81, R90). -/

namespace Sys2Proof.Machine

/-- SEND.ON: every request word with bit 7 = 1. -/
def execSendOn (temperature : BitVec 8) (modeTok : BitVec 3) (fanTok : BitVec 4) (s : State) : Exec := 
  sendRequest { temperature := temperature, power := true, modeTok := modeTok, fanTok := fanTok } s

/-- SEND.OFF: every request word with bit 7 = 0. -/
def execSendOff (temperature : BitVec 8) (modeTok : BitVec 3) (fanTok : BitVec 4) (s : State) : Exec := 
  sendRequest { temperature := temperature, power := false, modeTok := modeTok, fanTok := fanTok } s

end Sys2Proof.Machine
end

