-- ==== Sys2Proof/Machine/Sequencer.lean ====
section
/-! DEFINITION. The mark/space timer: START, TICK, FINISH (spec/42_pulse_train.md section 2). -/

namespace Sys2Proof.Machine

/-- START of a command (R162), when a request has passed the guard. -/
def execStart (c : Command) (s : State) : Exec := 
  if s.acceptEnabled then startCommand c s else .fault .notEnabled

/-- TICK (R163). -/
def execTick (s : State) : Exec := .next s.tickTimer

/-- FINISH (R164). -/
def execFinish (s : State) : Exec := finishSend s

end Sys2Proof.Machine
end

