-- ==== Sys2Proof/Machine/Symbol.lean ====
section
/-! DEFINITION. The five wire symbols: format SYM (spec/30_encoding.md R85). -/

namespace Sys2Proof.Machine

/-- A wire symbol, put on `sub` (R85). -/
def symbolRow (mark space : Option Nat) (s : State) : Exec := .next (s.setSub (.symbol mark space))

/-- SYM.HDR: header mark and header space (R153). -/
def execSymHdr (s : State) : Exec := symbolRow (some hdrMark) (some hdrSpace) s

/-- SYM.BIT0: a data bit 0 (R150). -/
def execSymBit0 (s : State) : Exec := symbolRow (some bitMark) (some zeroSpace) s

/-- SYM.BIT1: a data bit 1 (R150). -/
def execSymBit1 (s : State) : Exec := symbolRow (some bitMark) (some oneSpace) s

/-- SYM.STOP: the stop mark, no space (R153). -/
def execSymStop (s : State) : Exec := symbolRow (some bitMark) none s

/-- SYM.GAP: the gap between the repetitions, no mark (R154). -/
def execSymGap (s : State) : Exec := symbolRow none (some gap) s

end Sys2Proof.Machine
end

