-- ==== Sys2Proof/Machine/Token.lean ====
section
/-! DEFINITION. The token values of a request word: formats REQ.mode and REQ.fan (spec/30_encoding.md R82, R83; 40_normalize.md R112). -/

namespace Sys2Proof.Machine

/-- The result mode of a mode token, put on `sub` (R112). -/
def modeTokenRow (tok : BitVec 3) (s : State) : Exec := .next (s.setSub (.mode (fallbackMode tok s.st.mode)))

/-- The result fan speed of a fan token, put on `sub` (R112). -/
def fanTokenRow (tok : BitVec 4) (s : State) : Exec := .next (s.setSub (.fan (fallbackFan tok s.st.fan)))

/-- MODE.COOL: recognized mode token 0 (R82). -/
def execModeCool (s : State) : Exec := modeTokenRow 0 s

/-- MODE.HEAT: recognized mode token 1 (R82). -/
def execModeHeat (s : State) : Exec := modeTokenRow 1 s

/-- MODE.AUTO: recognized mode token 2 (R82). -/
def execModeAuto (s : State) : Exec := modeTokenRow 2 s

/-- MODE.FAN: recognized mode token 3 (R82). -/
def execModeFan (s : State) : Exec := modeTokenRow 3 s

/-- MODE.DRY: recognized mode token 4 (R82). -/
def execModeDry (s : State) : Exec := modeTokenRow 4 s

/-- MODE.KEEP5: unrecognized mode token 5; the result is the stored mode (R112). -/
def execModeKeep5 (s : State) : Exec := modeTokenRow 5 s

/-- MODE.KEEP6: unrecognized mode token 6; the result is the stored mode (R112). -/
def execModeKeep6 (s : State) : Exec := modeTokenRow 6 s

/-- MODE.KEEP7: unrecognized mode token 7; the result is the stored mode (R112). -/
def execModeKeep7 (s : State) : Exec := modeTokenRow 7 s

/-- FANTOK.AUTO: recognized fan token 0 (R83). -/
def execFantokAuto (s : State) : Exec := fanTokenRow 0 s

/-- FANTOK.LOW: recognized fan token 1 (R83). -/
def execFantokLow (s : State) : Exec := fanTokenRow 1 s

/-- FANTOK.MEDIUM: recognized fan token 2 (R83). -/
def execFantokMedium (s : State) : Exec := fanTokenRow 2 s

/-- FANTOK.HIGH: recognized fan token 3 (R83). -/
def execFantokHigh (s : State) : Exec := fanTokenRow 3 s

/-- FANTOK.KEEP4_7: unrecognized fan tokens 01ff; the result is the stored fan speed (R112). -/
def execFantokKeep4to7 (low : BitVec 2) (s : State) : Exec := fanTokenRow (0b0100 ||| low.setWidth 4) s

/-- FANTOK.KEEP8_15: unrecognized fan tokens 1fff; the result is the stored fan speed (R112). -/
def execFantokKeep8to15 (low : BitVec 3) (s : State) : Exec := fanTokenRow (0b1000 ||| low.setWidth 4) s

end Sys2Proof.Machine
end

