-- ==== Sys2Proof/Machine/Train.lean ====
section
/-! DEFINITION. The Pulse Train Encoder as a function (spec/42_pulse_train.md section 1). -/

namespace Sys2Proof.Machine

/-- SYM (R150). -/
def execSym (b : Bool) (s : State) : Exec := .next (s.setSub (.durations (symDurations b)))

/-- ENCBYTE (R151). -/
def execEncbyte (b : Byte) (s : State) : Exec := .next (s.setSub (.durations (encByte b)))

/-- ENCPAIR (R152). -/
def execEncpair (b : Byte) (s : State) : Exec := .next (s.setSub (.durations (encPair b)))

/-- REP (R153). -/
def execRep (f : Frame) (s : State) : Exec := .next (s.setSub (.durations (repOf f)))

/-- TRAIN (R154). -/
def execTrain (f : Frame) (s : State) : Exec := .next (s.setSub (.durations (trainOf f)))

/-- DUR (R157); no slot 199 (V23). -/
def execDur (f : Frame) (k : Nat) (s : State) : Exec :=
  match dur? f k with
  | some d => .next (s.setSub (.duration d))
  | none => .fault .slotIndex

end Sys2Proof.Machine
end

