-- ==== Sys2Proof/Machine/Dispatch.lean ====
section
/-! DEFINITION. One arm for each operation. -/

namespace Sys2Proof.Machine

def exec (i : Instr) (s : State) : Host.Outcome State Fault Refusal :=
  match i with
  | .sendOn temperature modeTok fanTok => Sys2Proof.Machine.execSendOn temperature modeTok fanTok s
  | .sendOff temperature modeTok fanTok => Sys2Proof.Machine.execSendOff temperature modeTok fanTok s
  | .modeCool => Sys2Proof.Machine.execModeCool s
  | .modeHeat => Sys2Proof.Machine.execModeHeat s
  | .modeAuto => Sys2Proof.Machine.execModeAuto s
  | .modeFan => Sys2Proof.Machine.execModeFan s
  | .modeDry => Sys2Proof.Machine.execModeDry s
  | .modeKeep5 => Sys2Proof.Machine.execModeKeep5 s
  | .modeKeep6 => Sys2Proof.Machine.execModeKeep6 s
  | .modeKeep7 => Sys2Proof.Machine.execModeKeep7 s
  | .fantokAuto => Sys2Proof.Machine.execFantokAuto s
  | .fantokLow => Sys2Proof.Machine.execFantokLow s
  | .fantokMedium => Sys2Proof.Machine.execFantokMedium s
  | .fantokHigh => Sys2Proof.Machine.execFantokHigh s
  | .fantokKeep4to7 low => Sys2Proof.Machine.execFantokKeep4to7 low s
  | .fantokKeep8to15 low => Sys2Proof.Machine.execFantokKeep8to15 low s
  | .frame fanNibble stateNibble tempNibble modeNibble => Sys2Proof.Machine.execFrame fanNibble stateNibble tempNibble modeNibble s
  | .fannibAuto => Sys2Proof.Machine.execFannibAuto s
  | .fannibLow => Sys2Proof.Machine.execFannibLow s
  | .fannibMedium => Sys2Proof.Machine.execFannibMedium s
  | .fannibHigh => Sys2Proof.Machine.execFannibHigh s
  | .statenibOn => Sys2Proof.Machine.execStatenibOn s
  | .statenibOff => Sys2Proof.Machine.execStatenibOff s
  | .tempnib17 => Sys2Proof.Machine.execTempnib17 s
  | .tempnib18 => Sys2Proof.Machine.execTempnib18 s
  | .tempnib19 => Sys2Proof.Machine.execTempnib19 s
  | .tempnib20 => Sys2Proof.Machine.execTempnib20 s
  | .tempnib21 => Sys2Proof.Machine.execTempnib21 s
  | .tempnib22 => Sys2Proof.Machine.execTempnib22 s
  | .tempnib23 => Sys2Proof.Machine.execTempnib23 s
  | .tempnib24 => Sys2Proof.Machine.execTempnib24 s
  | .tempnib25 => Sys2Proof.Machine.execTempnib25 s
  | .tempnib26 => Sys2Proof.Machine.execTempnib26 s
  | .tempnib27 => Sys2Proof.Machine.execTempnib27 s
  | .tempnib28 => Sys2Proof.Machine.execTempnib28 s
  | .tempnib29 => Sys2Proof.Machine.execTempnib29 s
  | .tempnib30 => Sys2Proof.Machine.execTempnib30 s
  | .tempnibOff => Sys2Proof.Machine.execTempnibOff s
  | .modenibCool => Sys2Proof.Machine.execModenibCool s
  | .modenibHeat => Sys2Proof.Machine.execModenibHeat s
  | .modenibAuto => Sys2Proof.Machine.execModenibAuto s
  | .modenibFan => Sys2Proof.Machine.execModenibFan s
  | .modenibDry => Sys2Proof.Machine.execModenibDry s
  | .symHdr => Sys2Proof.Machine.execSymHdr s
  | .symBit0 => Sys2Proof.Machine.execSymBit0 s
  | .symBit1 => Sys2Proof.Machine.execSymBit1 s
  | .symStop => Sys2Proof.Machine.execSymStop s
  | .symGap => Sys2Proof.Machine.execSymGap s
  | .outcomeOk => Sys2Proof.Machine.execOutcomeOk s
  | .outcomeRateLimited => Sys2Proof.Machine.execOutcomeRateLimited s
  | .outcomeTxFailed => Sys2Proof.Machine.execOutcomeTxFailed s
  | .normalize req => Sys2Proof.Machine.execNormalize req s
  | .clamp t => Sys2Proof.Machine.execClamp t s
  | .tokenFallback modeTok fanTok => Sys2Proof.Machine.execTokenFallback modeTok fanTok s
  | .maptemp temp => Sys2Proof.Machine.execMaptemp temp s
  | .mapmode mode => Sys2Proof.Machine.execMapmode mode s
  | .mapfan fan => Sys2Proof.Machine.execMapfan fan s
  | .mapstate power => Sys2Proof.Machine.execMapstate power s
  | .tempnib power temp => Sys2Proof.Machine.execTempnib power temp s
  | .frameBuild c => Sys2Proof.Machine.execFrameBuild c s
  | .sym b => Sys2Proof.Machine.execSym b s
  | .encbyte b => Sys2Proof.Machine.execEncbyte b s
  | .encpair b => Sys2Proof.Machine.execEncpair b s
  | .rep f => Sys2Proof.Machine.execRep f s
  | .train f => Sys2Proof.Machine.execTrain f s
  | .dur f k => Sys2Proof.Machine.execDur f k s
  | .start c => Sys2Proof.Machine.execStart c s
  | .tick => Sys2Proof.Machine.execTick s
  | .finish => Sys2Proof.Machine.execFinish s
  | .guard t0 => Sys2Proof.Machine.execGuard t0 s
  | .accept req => Sys2Proof.Machine.execAccept req s
  | .reject => Sys2Proof.Machine.execReject s
  | .transmit => Sys2Proof.Machine.execTransmit s
  | .fail => Sys2Proof.Machine.execFail s
  | .commit => Sys2Proof.Machine.execCommit s
  | .reset => Sys2Proof.Machine.execReset s

end Sys2Proof.Machine
end

