-- ==== Sys2Proof/Machine/Step.lean ====
section
/-! DEFINITION. One step of the machine: end the one-step outputs, run the operation the ports select, take the
ports of the next step. `withFetchWord` presents one word of the opcode table. -/

namespace Sys2Proof.Machine

/-- One step. An idle step only ends the one-step outputs and lets the environment go on. -/
def step (s : State) : Host.Outcome State Fault Refusal :=
  match s.select with
  | .idle => .next s.clearEvents.advance
  | .reject why => .refused (.undecodable why)
  | .run i =>
    match exec i s.clearEvents with
    | .next t => .next t.advance
    | .fault f => .fault f
    | .refused r => .refused r

/-- `s` with one table word presented at the next step and nothing beside it: a 16-bit word on the request port,
a word of another width on the evaluation port (log 7, 11). -/
def State.withFetchWord (s : State) (nbits w : Nat) : State :=
  if nbits = 16 then
    { s with ports := { Ports.idle s.ports.now with reqValid := true, req := BitVec.ofNat 16 w } }
  else
    { s with ports := { Ports.idle s.ports.now with probe := some (nbits, w) } }

end Sys2Proof.Machine
end

