-- ==== Sys2Proof/Machine/LevelA.lean ====
section
/-! DEFINITION. Level A (spec/00_scope.md R4): SEND as the one transaction of 43_rate_limiter.md R180, with the
sink's answer and the two readings of the time source as arguments. -/

namespace Sys2Proof.Machine

/-- What one transaction leaves: the two registers of Level A that a SEND may write, and everything it sends out. -/
structure Transaction where
  st     : Command
  lastTx : Time
  out    : Outputs
  deriving DecidableEq, Repr, Inhabited

/-- SEND (R180): `t0` and `t1` are the two readings of `now`, `ok` the sink's answer (R184). `none` only if a table
read has no value (R56 b), which no request gives. -/
def sendA (p : Params) (st : Command) (lastTx : Time) (r : Request) (t0 : Time) (ok : Bool) (t1 : Time) :
    Option Transaction :=
  if guardPasses t0 lastTx then
    let c := normalizeRequest r st
    match frameOf c with
    | none => none
    | some f =>
      let call : SinkCall := { durations := sinkDurations p.u f, carrierHz := p.carrierHz }
      if ok then
        some { st := c, lastTx := t1,
               out := { txStart := some call, res := some .ok, fb := some true, conf := some (confirmationOf c t1) } }
      else
        some { st := st, lastTx := lastTx,
               out := { txStart := some call, res := some .txFailed, fb := some false, conf := none } }
  else
    some { st := st, lastTx := lastTx,
           out := { txStart := none, res := some .rateLimited, fb := some false, conf := none } }

end Sys2Proof.Machine
end

