-- ==== Sys2Proof/WellFormed.lean ====
section
/-! DEFINITION. When an instruction is well formed: its operands are ones its rule speaks of. -/

namespace Sys2Proof

/-- A canonical temperature, in [17, 30] (R23, R113). -/
def Temp.canonical (t : Temp) : Bool := decide (17 ≤ t.toNat) && decide (t.toNat ≤ 30)

/-- A CanonicalCommand: mode and fan are recognized by their types, so only the temperature is checked (R23). -/
def Command.canonical (c : Command) : Bool := c.temp.canonical

/-- Legal parameters (R7): `U` and `CARRIER_HZ` positive, the reset command canonical. -/
def Params.wf (p : Params) : Bool := decide (0 < p.u) && decide (0 < p.carrierHz) && p.rst.canonical

/-- The four nibbles of a frame are ones the block generates (R84, R91 d): with the state nibble 1111 the
temperature nibble is one of the 14 codes (all but 1110 and 1111), with 1011 it is the sentinel 1110. -/
def frameNibblesGenerated (fan state temp mode : Nibble) : Bool :=
  (fan = 0b1011 || fan = 0b1001 || fan = 0b0101 || fan = 0b0011)
  && (mode = 0b0000 || mode = 0b1100 || mode = 0b1000 || mode = 0b0100 || mode = 0b0010)
  && ((state = 0b1111 && temp ≠ 0b1110 && temp ≠ 0b1111) || (state = 0b1011 && temp = 0b1110))

/-- Well-formedness of an instruction. -/
def WellFormed : Instr → Bool
  | .frame fan state temp mode => frameNibblesGenerated fan state temp mode
  | .maptemp temp => temp.canonical
  | .tempnib power temp => !power || temp.canonical
  | .frameBuild c => c.canonical
  | .start c => c.canonical
  | .dur _ k => decide (k < 199)
  | .sendOn _ _ _ | .sendOff _ _ _ => true
  | .modeCool | .modeHeat | .modeAuto | .modeFan | .modeDry => true
  | .modeKeep5 | .modeKeep6 | .modeKeep7 => true
  | .fantokAuto | .fantokLow | .fantokMedium | .fantokHigh => true
  | .fantokKeep4to7 _ | .fantokKeep8to15 _ => true
  | .fannibAuto | .fannibLow | .fannibMedium | .fannibHigh => true
  | .statenibOn | .statenibOff => true
  | .tempnib17 | .tempnib18 | .tempnib19 | .tempnib20 | .tempnib21 | .tempnib22 | .tempnib23 => true
  | .tempnib24 | .tempnib25 | .tempnib26 | .tempnib27 | .tempnib28 | .tempnib29 | .tempnib30 => true
  | .tempnibOff => true
  | .modenibCool | .modenibHeat | .modenibAuto | .modenibFan | .modenibDry => true
  | .symHdr | .symBit0 | .symBit1 | .symStop | .symGap => true
  | .outcomeOk | .outcomeRateLimited | .outcomeTxFailed => true
  | .normalize _ | .clamp _ | .tokenFallback _ _ => true
  | .mapmode _ | .mapfan _ | .mapstate _ => true
  | .sym _ | .encbyte _ | .encpair _ | .rep _ | .train _ => true
  | .tick | .finish | .guard _ | .accept _ | .reject => true
  | .transmit | .fail | .commit | .reset => true

end Sys2Proof
end

