-- ==== Sys2Proof/Safety.lean ====
section
/-! DEFINITION. What statements about runs are written with: the block invariant, runs of ticks, and the waveform
that a train stands for. -/

namespace Sys2Proof.Machine

/-- The block invariant: R23 (DeviceState is canonical), the ranges of R20 for `k` and `t`, and while BUSY the
latched frame is the frame of the latched canonical command and `t` counts the current slot (R162, R163). -/
structure Inv (s : State) : Prop where
  cfg_wf       : s.cfg.wf = true
  st_canonical : s.st.canonical = true
  k_le         : s.k ≤ 199
  t_le         : s.t ≤ 8 * s.cfg.u
  cLat_canonical : s.phase = .busy → s.cLat.canonical = true
  fLat_frame   : s.phase = .busy → frameOf s.cLat = some s.fLat
  t_in_slot    : s.phase = .busy → s.k < 199 → 1 ≤ s.t ∧ s.t ≤ s.cfg.u * slotDur s.fLat s.k
  t_done       : s.phase = .busy → s.k = 199 → s.t = 0

/-- `n` TICKs, one after another. -/
def runTicks : Nat → State → Host.Outcome State Fault Refusal
  | 0, s => .next s
  | n + 1, s =>
    match exec .tick s with
    | .next t => runTicks n t
    | .fault f => .fault f
    | .refused r => .refused r

/-- The envelope a list of durations stands for, tick by tick: entry `k` (in units of `u` ticks) is a mark when `k`
is even and a space when `k` is odd (R155, R166). The first argument is the parity of the first entry. -/
def waveformFrom (mark : Bool) (u : Nat) : List Nat → List Bool
  | [] => []
  | d :: ds => List.replicate (u * d) mark ++ waveformFrom (!mark) u ds

/-- The waveform of a train: it starts with a mark (R155). -/
def waveform (u : Nat) (f : Frame) : List Bool := waveformFrom true u (trainOf f)

/-- A request is presented with the word `w`, and no reset. -/
def State.presents (s : State) (w : BitVec 16) : Prop :=
  s.ports.rst = false ∧ s.ports.reqValid = true ∧ s.ports.req = w

/-- The ports of a step while a train is emitted: no reset and no answer of the call in flight. -/
def Ports.quiet (p : Ports) : Bool := !p.rst && !(p.txDone && !p.txStale)

end Sys2Proof.Machine
end

