-- ==== Sys2Proof/Certificates/Slice0/Obligations.lean ====
section
/-! DEFINITION. The statements for the provers, as propositions; each docstring names the rules it formalises.
Tables are written out again here from spec/20_memory.md, so that a statement does not rest on the model's copy. -/

open Sys2Proof Sys2Proof.Machine

/-! ## The spec's tables and effects, written out for the statements -/

namespace Sys2Proof.Spec

/-- `TAB_TEMP` by temperature (R51); the last line is no entry and no statement reads it. -/
def tempNibble (t : Temp) : Nibble :=
  match t.toNat with
  | 17 => 0x0 | 18 => 0x1 | 19 => 0x3 | 20 => 0x2 | 21 => 0x6 | 22 => 0x7 | 23 => 0x5
  | 24 => 0x4 | 25 => 0xC | 26 => 0xD | 27 => 0x9 | 28 => 0x8 | 29 => 0xA | 30 => 0xB
  | _ => 0xF

/-- `TAB_MODE` (R52). -/
def modeNibble : Mode → Nibble
  | .cool => 0x0 | .heat => 0xC | .auto => 0x8 | .fan => 0x4 | .dry => 0x2

/-- `TAB_FAN` (R53). -/
def fanNibble : Fan → Nibble
  | .auto => 0xB | .low => 0x9 | .medium => 0x5 | .high => 0x3

/-- The state nibble (R133). -/
def stateNibble (power : Bool) : Nibble := if power then 0xF else 0xB

/-- The frame of a canonical command (R135, with the override of R134). -/
def frame (c : Command) : Frame :=
  { byte0 := 0xB2
    byte1 := fanNibble c.fan ++ stateNibble c.power
    byte2 := (if c.power then tempNibble c.temp else 0xE) ++ modeNibble c.mode }

/-- The command a request asks for (R110 to R112): `c.temp` is the temperature clamped into 17..30 as a signed
number, a recognized token gives its own value, an unrecognized one the stored value. -/
structure Normalized (r : Request) (st c : Command) : Prop where
  power : c.power = r.power
  temp  : (c.temp.toNat : Int) = max 17 (min 30 r.temperature.toInt)
  mode  : (r.modeTok = 0 → c.mode = .cool) ∧ (r.modeTok = 1 → c.mode = .heat) ∧ (r.modeTok = 2 → c.mode = .auto)
            ∧ (r.modeTok = 3 → c.mode = .fan) ∧ (r.modeTok = 4 → c.mode = .dry)
            ∧ (5 ≤ r.modeTok.toNat → c.mode = st.mode)
  fan   : (r.fanTok = 0 → c.fan = .auto) ∧ (r.fanTok = 1 → c.fan = .low) ∧ (r.fanTok = 2 → c.fan = .medium)
            ∧ (r.fanTok = 3 → c.fan = .high) ∧ (4 ≤ r.fanTok.toNat → c.fan = st.fan)

/-- The list handed to the sink for a frame (R154, R158). -/
def durations (u : Nat) (f : Frame) : List Nat := (trainOf f).map (u * ·)

/-- The state after an accepted request with command `c` (R162, R182, R184): the sequencer at slot 0, BUSY, the sink
called with the whole train; everything else as before. -/
def accepted (s : State) (c : Command) : State :=
  { s with cLat := c, fLat := frame c, k := 0, t := 8 * s.cfg.u, phase := .busy,
           out := { s.out with txStart := some { durations := durations s.cfg.u (frame c),
                                                 carrierHz := s.cfg.carrierHz } } }

/-- The state after an outcome other than OK (R183, R185, R214): outcome and feedback false, READY; nothing else. -/
def raised (s : State) (x : Result) : State :=
  { s with phase := .ready, out := { s.out with res := some x, fb := some false } }

/-- The state after COMMIT (R186, R218, R219, R220). -/
def committed (s : State) : State :=
  { s with st := s.cLat, lastTx := s.ports.now, phase := .ready,
           out := { s.out with
             res := some .ok, fb := some true,
             conf := some { stateOn := s.cLat.power, temperature := s.cLat.temp, mode := s.cLat.mode,
                            fanSpeed := s.cLat.fan, confirmed := true, timestamp := s.ports.now } } }

/-- The guard of R181 on mathematical numbers. -/
def spaced (t0 lastTx : Time) : Prop := 2000 ≤ (t0.toNat + 2 ^ 32 - lastTx.toNat) % 2 ^ 32

/-- The answer of the call in flight is on the ports, not one of an abandoned call (R164, R251). -/
def answer (s : State) : Prop := s.ports.txDone = true ∧ s.ports.txStale = false

/-- No reset, no request, no tick, and in BUSY no answer: none of the ports of R80 makes the step do anything. -/
def silent (s : State) : Prop :=
  s.ports.rst = false ∧ s.ports.reqValid = false ∧ s.ports.tick = false ∧ (s.phase = .busy → ¬ answer s)

/-- What a step is when it runs `i`: `i` from the state with the one-step outputs ended, then the ports of the next
step; a stop of `i` is the stop of the step. -/
def ran (s : State) (i : Instr) : Host.Outcome State Fault Refusal :=
  match exec i s.clearEvents with
  | .next t => .next t.advance
  | .fault f => .fault f
  | .refused r => .refused r

end Sys2Proof.Spec

/-! ## Encoding -/

/-- R81, R90: every one of the 65536 words is a SEND, ON or OFF by bit 7, with its fields in the places of R81, and
no bit of the word is dropped. -/
def Obligations.RequestWordsDecodeAndEncodeBack : Prop :=
  ∀ w : BitVec 16,
    let on := Instr.sendOn (w.extractLsb' 8 8) (w.extractLsb' 4 3) (w.extractLsb' 0 4)
    let off := Instr.sendOff (w.extractLsb' 8 8) (w.extractLsb' 4 3) (w.extractLsb' 0 4)
    (w.getLsbD 7 = true → decode (.req w) = .ok on ∧ encode on = some (.req w))
    ∧ (w.getLsbD 7 = false → decode (.req w) = .ok off ∧ encode off = some (.req w))

/-- Decoding an encoded well-formed instruction gives it back, for every row that has an encoding (R90). -/
def Obligations.DecodeOfEncodeIsIdentity : Prop :=
  ∀ (i : Instr) (c : Code), WellFormed i = true → encode i = some c → decode c = .ok i

/-- A word means one instruction: two instructions with the same code are equal (R90). -/
def Obligations.EncodingsAreDistinct : Prop :=
  ∀ (i j : Instr) (c : Code), encode i = some c → encode j = some c → i = j

/-- Words written out from the spec: R81's four examples, one word of each frame format (R84, R51 to R53, R133), the
wire symbols (R85) and the outcome codes (R211); code 3 is rejected. -/
def Obligations.SpecWordsDecode : Prop :=
  decode (.req 0x1880) = .ok (.sendOn 24 0 0)
  ∧ decode (.req 0x1800) = .ok (.sendOff 24 0 0)
  ∧ decode (.req 0x1EC1) = .ok (.sendOn 30 4 1)
  ∧ decode (.req 0xFDFF) = .ok (.sendOn (-3) 7 15)
  ∧ decode (.reqMode 0x0050) = .ok .modeKeep5
  ∧ decode (.reqFan 0x000C) = .ok (.fantokKeep8to15 4)
  ∧ decode (.frame 0xB2BF40) = .ok (.frame 0xB 0xF 0x4 0x0)
  ∧ decode (.frameFan 0x005000) = .ok .fannibMedium
  ∧ decode (.frameState 0x000B00) = .ok .statenibOff
  ∧ decode (.frameTemp 0x0000D0) = .ok .tempnib26
  ∧ decode (.frameMode 0x00000C) = .ok .modenibHeat
  ∧ decode (.symbol (some 1) (some 3)) = .ok .symBit1
  ∧ decode (.res 2) = .ok .outcomeTxFailed
  ∧ decode (.res 3) = .error .outcomeCodeNeverProduced

/-! ## Format rows -/

/-- R82: the recognized mode tokens give their own mode, tokens 5, 6 and 7 the stored one; nothing but the model's
result field changes. -/
def Obligations.ModeTokenRowsGiveTheResultMode : Prop :=
  ∀ s : State,
    exec .modeCool s = .next { s with sub := .mode .cool }
    ∧ exec .modeHeat s = .next { s with sub := .mode .heat }
    ∧ exec .modeAuto s = .next { s with sub := .mode .auto }
    ∧ exec .modeFan s = .next { s with sub := .mode .fan }
    ∧ exec .modeDry s = .next { s with sub := .mode .dry }
    ∧ exec .modeKeep5 s = .next { s with sub := .mode s.st.mode }
    ∧ exec .modeKeep6 s = .next { s with sub := .mode s.st.mode }
    ∧ exec .modeKeep7 s = .next { s with sub := .mode s.st.mode }

/-- R83: the recognized fan tokens give their own fan speed, tokens 4 to 15 the stored one. -/
def Obligations.FanTokenRowsGiveTheResultFan : Prop :=
  ∀ (s : State) (low2 : BitVec 2) (low3 : BitVec 3),
    exec .fantokAuto s = .next { s with sub := .fan .auto }
    ∧ exec .fantokLow s = .next { s with sub := .fan .low }
    ∧ exec .fantokMedium s = .next { s with sub := .fan .medium }
    ∧ exec .fantokHigh s = .next { s with sub := .fan .high }
    ∧ exec (.fantokKeep4to7 low2) s = .next { s with sub := .fan s.st.fan }
    ∧ exec (.fantokKeep8to15 low3) s = .next { s with sub := .fan s.st.fan }

/-- R84: the frame word of four nibbles is 0xB2 and the two bytes that hold them, high nibble first. Beside it stands
the answer of R94's frame decoder, `decodeFrame`, which is present exactly when the nibbles are ones the block
generates. That the row completes on other nibbles too is the model's choice (log 13). -/
def Obligations.FrameWordRowBuildsTheThreeBytes : Prop :=
  ∀ (s : State) (fan state temp mode : Nibble),
    let f : Frame := { byte0 := 0xB2, byte1 := fan ++ state, byte2 := temp ++ mode }
    exec (.frame fan state temp mode) s = .next { s with sub := .frameWord f (decodeFrame f) }
    ∧ ((decodeFrame f).isSome = true ↔ frameNibblesGenerated fan state temp mode = true)

/-- R84 with R130 to R134: the value of each nibble of a frame, for every fan speed, both power values, every mode,
every temperature and the sentinel. -/
def Obligations.FrameNibbleRows : Prop :=
  ∀ s : State,
    exec .fannibAuto s = .next { s with sub := .fieldNibble .fan 0b1011 }
    ∧ exec .fannibLow s = .next { s with sub := .fieldNibble .fan 0b1001 }
    ∧ exec .fannibMedium s = .next { s with sub := .fieldNibble .fan 0b0101 }
    ∧ exec .fannibHigh s = .next { s with sub := .fieldNibble .fan 0b0011 }
    ∧ exec .statenibOn s = .next { s with sub := .fieldNibble .state 0b1111 }
    ∧ exec .statenibOff s = .next { s with sub := .fieldNibble .state 0b1011 }
    ∧ exec .modenibCool s = .next { s with sub := .fieldNibble .mode 0b0000 }
    ∧ exec .modenibHeat s = .next { s with sub := .fieldNibble .mode 0b1100 }
    ∧ exec .modenibAuto s = .next { s with sub := .fieldNibble .mode 0b1000 }
    ∧ exec .modenibFan s = .next { s with sub := .fieldNibble .mode 0b0100 }
    ∧ exec .modenibDry s = .next { s with sub := .fieldNibble .mode 0b0010 }
    ∧ exec .tempnib17 s = .next { s with sub := .fieldNibble .temp 0b0000 }
    ∧ exec .tempnib18 s = .next { s with sub := .fieldNibble .temp 0b0001 }
    ∧ exec .tempnib19 s = .next { s with sub := .fieldNibble .temp 0b0011 }
    ∧ exec .tempnib20 s = .next { s with sub := .fieldNibble .temp 0b0010 }
    ∧ exec .tempnib21 s = .next { s with sub := .fieldNibble .temp 0b0110 }
    ∧ exec .tempnib22 s = .next { s with sub := .fieldNibble .temp 0b0111 }
    ∧ exec .tempnib23 s = .next { s with sub := .fieldNibble .temp 0b0101 }
    ∧ exec .tempnib24 s = .next { s with sub := .fieldNibble .temp 0b0100 }
    ∧ exec .tempnib25 s = .next { s with sub := .fieldNibble .temp 0b1100 }
    ∧ exec .tempnib26 s = .next { s with sub := .fieldNibble .temp 0b1101 }
    ∧ exec .tempnib27 s = .next { s with sub := .fieldNibble .temp 0b1001 }
    ∧ exec .tempnib28 s = .next { s with sub := .fieldNibble .temp 0b1000 }
    ∧ exec .tempnib29 s = .next { s with sub := .fieldNibble .temp 0b1010 }
    ∧ exec .tempnib30 s = .next { s with sub := .fieldNibble .temp 0b1011 }
    ∧ exec .tempnibOff s = .next { s with sub := .fieldNibble .temp 0b1110 }

/-- R85: the five wire symbols, in units of `U`. -/
def Obligations.WireSymbolRows : Prop :=
  ∀ s : State,
    exec .symHdr s = .next { s with sub := .symbol (some 8) (some 8) }
    ∧ exec .symBit0 s = .next { s with sub := .symbol (some 1) (some 1) }
    ∧ exec .symBit1 s = .next { s with sub := .symbol (some 1) (some 3) }
    ∧ exec .symStop s = .next { s with sub := .symbol (some 1) none }
    ∧ exec .symGap s = .next { s with sub := .symbol none (some 8) }

/-- R211: the outcome rows drive `res_code` 0, 1, 2, and nothing else changes; 3 is no outcome's code. -/
def Obligations.OutcomeCodeRows : Prop :=
  (∀ s : State,
    exec .outcomeOk s = .next { s with out := { s.out with res := some .ok } }
    ∧ exec .outcomeRateLimited s = .next { s with out := { s.out with res := some .rateLimited } }
    ∧ exec .outcomeTxFailed s = .next { s with out := { s.out with res := some .txFailed } })
  ∧ Result.code .ok = 0 ∧ Result.code .rateLimited = 1 ∧ Result.code .txFailed = 2
  ∧ ∀ x : Result, x.code ≠ 3

/-! ## Normalizer, mapper, frame builder -/

/-- R110: NORMALIZE is total and gives the normalized command of the word and the stored command. -/
def Obligations.NormalizeGivesTheCanonicalCommand : Prop :=
  ∀ (s : State) (w : BitVec 16), ∃ c,
    exec (.normalize w) s = .next { s with sub := .command c } ∧ c.canonical = true
    ∧ Spec.Normalized { temperature := w.extractLsb' 8 8, power := w.getLsbD 7, modeTok := w.extractLsb' 4 3,
                        fanTok := w.extractLsb' 0 4 } s.st c

/-- R111: CLAMP on every mathematical integer. -/
def Obligations.ClampIntoRange : Prop :=
  ∀ (s : State) (t : Int), ∃ v : Temp,
    exec (.clamp t) s = .next { s with sub := .temp v }
    ∧ (t < 17 → v = 17) ∧ (30 < t → v = 30) ∧ (17 ≤ t → t ≤ 30 → (v.toNat : Int) = t)

/-- R112: the two token fields fall back independently. -/
def Obligations.TokenFallbackKeepsStoredFields : Prop :=
  ∀ (s : State) (modeTok : BitVec 3) (fanTok : BitVec 4), ∃ m f,
    exec (.tokenFallback modeTok fanTok) s = .next { s with sub := .tokens m f }
    ∧ (modeTok.toNat < 5 → modeCode m = modeTok) ∧ (5 ≤ modeTok.toNat → m = s.st.mode)
    ∧ (fanTok.toNat < 4 → (fanCode f).toNat = fanTok.toNat) ∧ (4 ≤ fanTok.toNat → f = s.st.fan)

/-- R130 to R134: the mapper on canonical temperatures, every mode, fan speed and power; a temperature outside
17..30 reads no table entry and stops by name (R56 b). -/
def Obligations.NibbleMapperReadsTheTables : Prop :=
  ∀ (s : State) (temp : Temp) (mode : Mode) (fan : Fan) (power : Bool),
    (temp.canonical = true → exec (.maptemp temp) s = .next { s with sub := .nibble (Spec.tempNibble temp) })
    ∧ (temp.canonical = false → exec (.maptemp temp) s = .fault .tableIndex)
    ∧ exec (.mapmode mode) s = .next { s with sub := .nibble (Spec.modeNibble mode) }
    ∧ exec (.mapfan fan) s = .next { s with sub := .nibble (Spec.fanNibble fan) }
    ∧ exec (.mapstate power) s = .next { s with sub := .nibble (Spec.stateNibble power) }
    ∧ exec (.tempnib false temp) s = .next { s with sub := .nibble 0b1110 }
    ∧ (temp.canonical = true → exec (.tempnib true temp) s = .next { s with sub := .nibble (Spec.tempNibble temp) })
    ∧ (temp.canonical = false → exec (.tempnib true temp) s = .fault .tableIndex)

/-- R135: FRAME of a canonical command. -/
def Obligations.FrameBuildGivesTheFrame : Prop :=
  ∀ (s : State) (c : Command), c.canonical = true →
    exec (.frameBuild c) s = .next { s with sub := .frame (Spec.frame c) }

/-- R94 rests on the tables: the frame decoder gives back power, mode and fan, and the temperature exactly when
power is on. -/
def Obligations.FrameDecodesBack : Prop :=
  ∀ c : Command, c.canonical = true →
    decodeFrame (Spec.frame c)
      = some { power := c.power, temp := if c.power then some c.temp else none, mode := c.mode, fan := c.fan }

/-- R94: which canonical commands share a frame. -/
def Obligations.FrameInjective : Prop :=
  ∀ c d : Command, c.canonical = true → d.canonical = true →
    (frameOf c = frameOf d ↔
      c.power = d.power ∧ c.mode = d.mode ∧ c.fan = d.fan ∧ (c.power = true → c.temp = d.temp))

/-- R114: a canonical command presented as a request (its temperature as the 8-bit field, its storage codes of R22
as tokens) is accepted unchanged, whatever is stored. -/
def Obligations.NormalizeIdempotent : Prop :=
  ∀ c st : Command, c.canonical = true →
    normalizeRequest { temperature := c.temp.setWidth 8, power := c.power, modeTok := modeCode c.mode,
                       fanTok := (fanCode c.fan).setWidth 4 } st = c

/-! ## Pulse train -/

/-- R150: SYM of a bit. -/
def Obligations.SymOfBit : Prop :=
  ∀ s : State, exec (.sym true) s = .next { s with sub := .durations [1, 3] }
    ∧ exec (.sym false) s = .next { s with sub := .durations [1, 1] }

/-- R151: 16 durations, most significant bit first, each bit its mark and then its space. -/
def Obligations.EncByteMostSignificantFirst : Prop :=
  ∀ (s : State) (b : Byte), ∃ ds : List Nat,
    exec (.encbyte b) s = .next { s with sub := .durations ds } ∧ ds.length = 16
    ∧ ∀ i, i < 8 → ds[2 * i]? = some 1 ∧ ds[2 * i + 1]? = some (if b.getLsbD (7 - i) then 3 else 1)

/-- R152: a byte, then its complement; the sum is 48 for every byte. -/
def Obligations.EncPairComplementRedundancy : Prop :=
  ∀ (s : State) (b : Byte), ∃ ds es : List Nat,
    exec (.encbyte b) s = .next { s with sub := .durations ds }
    ∧ exec (.encbyte (~~~b)) s = .next { s with sub := .durations es }
    ∧ exec (.encpair b) s = .next { s with sub := .durations (ds ++ es) }
    ∧ (ds ++ es).sum = 48

/-- R153, R154: a repetition is header, three pairs, stop; the train is repetition, gap, repetition. -/
def Obligations.RepetitionAndTrain : Prop :=
  ∀ (s : State) (f : Frame),
    exec (.rep f) s = .next { s with
      sub := .durations ([8, 8] ++ encPair f.byte0 ++ encPair f.byte1 ++ encPair f.byte2 ++ [1]) }
    ∧ exec (.train f) s = .next { s with sub := .durations (repOf f ++ [8] ++ repOf f) }

/-- R153 to R155, R158: whatever the frame, 199 durations, each 1, 3 or 8, summing to 330, of which the marks
114 and the spaces 216; repetitions of length 99 and sum 161. -/
def Obligations.TrainShapeIsConstant : Prop :=
  ∀ f : Frame,
    (repOf f).length = 99 ∧ (repOf f).sum = 161
    ∧ (trainOf f).length = 199 ∧ (trainOf f).sum = 330
    ∧ (∀ d ∈ trainOf f, d = 1 ∨ d = 3 ∨ d = 8)
    ∧ ((List.range 199).map fun k => if k % 2 = 0 then (trainOf f).getD k 0 else 0).sum = 114
    ∧ ((List.range 199).map fun k => if k % 2 = 1 then (trainOf f).getD k 0 else 0).sum = 216

/-- R157: DUR is the train's entry, and there is no slot from 199 on (V23). -/
def Obligations.DurIsTheTrainEntry : Prop :=
  ∀ (s : State) (f : Frame) (k : Nat),
    (k < 199 → ∃ d, (trainOf f)[k]? = some d ∧ exec (.dur f k) s = .next { s with sub := .duration d })
    ∧ (199 ≤ k → (trainOf f)[k]? = none ∧ exec (.dur f k) s = .fault .slotIndex)

/-! ## SEND and its parts -/

/-- R181: GUARD of any time, on mathematical numbers. -/
def Obligations.GuardIsElapsedTimeAtLeastMinDelay : Prop :=
  ∀ (s : State) (t0 : Time), ∃ b : Bool,
    exec (.guard t0) s = .next { s with sub := .bool b } ∧ (b = true ↔ Spec.spaced t0 s.lastTx)

/-- R180, R182: a request presented while READY and spaced is accepted: both SEND rows, every operand. -/
def Obligations.SendAcceptedWhenSpaced : Prop :=
  ∀ (s : State) (temperature : BitVec 8) (modeTok : BitVec 3) (fanTok : BitVec 4),
    s.phase = .ready → Spec.spaced s.ports.now s.lastTx →
    (∃ c, Spec.Normalized { temperature, power := true, modeTok, fanTok } s.st c
      ∧ exec (.sendOn temperature modeTok fanTok) s = .next (Spec.accepted s c))
    ∧ (∃ c, Spec.Normalized { temperature, power := false, modeTok, fanTok } s.st c
      ∧ exec (.sendOff temperature modeTok fanTok) s = .next (Spec.accepted s c))

/-- R183: a request presented while READY and not spaced is rejected with no side effect. -/
def Obligations.SendRejectedInCooldown : Prop :=
  ∀ (s : State) (temperature : BitVec 8) (modeTok : BitVec 3) (fanTok : BitVec 4),
    s.phase = .ready → ¬ Spec.spaced s.ports.now s.lastTx →
    exec (.sendOn temperature modeTok fanTok) s = .next (Spec.raised s .rateLimited)
    ∧ exec (.sendOff temperature modeTok fanTok) s = .next (Spec.raised s .rateLimited)

/-- R188: a request presented while BUSY is neither accepted nor rejected nor stored. -/
def Obligations.SendNotTakenWhileBusy : Prop :=
  ∀ (s : State) (temperature : BitVec 8) (modeTok : BitVec 3) (fanTok : BitVec 4),
    s.phase = .busy →
    exec (.sendOn temperature modeTok fanTok) s = .next s ∧ exec (.sendOff temperature modeTok fanTok) s = .next s

/-- R180 is made of its parts: the guard chooses between ACCEPT and REJECT. -/
def Obligations.SendIsGuardThenAcceptOrReject : Prop :=
  ∀ (s : State) (w : BitVec 16) (i : Instr), decode (.req w) = .ok i → s.phase = .ready →
    (Spec.spaced s.ports.now s.lastTx → exec i s = exec (.accept w) s)
    ∧ (¬ Spec.spaced s.ports.now s.lastTx → exec i s = exec .reject s)

/-- R182: ACCEPT is START of the normalized command and then the call to the sink. -/
def Obligations.AcceptIsStartThenTransmit : Prop :=
  ∀ (s : State) (w : BitVec 16), s.phase = .ready → Spec.spaced s.ports.now s.lastTx →
    ∃ c s₁, exec (.normalize w) s = .next { s with sub := .command c }
      ∧ exec (.start c) s = .next s₁ ∧ exec .transmit s₁ = exec (.accept w) s

/-- R162: START of a canonical command, in a state where a request has passed the guard. -/
def Obligations.StartLoadsTheSequencer : Prop :=
  ∀ (s : State) (c : Command), s.phase = .ready → Spec.spaced s.ports.now s.lastTx → c.canonical = true →
    exec (.start c) s
      = .next { s with cLat := c, fLat := Spec.frame c, k := 0, t := 8 * s.cfg.u, phase := .busy }

/-- R182: ACCEPT of a request word, when GUARD is true. -/
def Obligations.AcceptCompletesWhenSpaced : Prop :=
  ∀ (s : State) (w : BitVec 16), s.phase = .ready → Spec.spaced s.ports.now s.lastTx →
    ∃ c, Spec.Normalized { temperature := w.extractLsb' 8 8, power := w.getLsbD 7, modeTok := w.extractLsb' 4 3,
                           fanTok := w.extractLsb' 0 4 } s.st c
      ∧ exec (.accept w) s = .next (Spec.accepted s c)

/-- R184: TRANSMIT in the step of START hands the sink the 199 durations and `CARRIER_HZ`; nothing else changes. -/
def Obligations.TransmitCallsTheSink : Prop :=
  ∀ s : State, s.phase = .busy → s.k = 0 → s.t = 8 * s.cfg.u →
    exec .transmit s = .next { s with out := { s.out with txStart := some {
      durations := Spec.durations s.cfg.u s.fLat, carrierHz := s.cfg.carrierHz } } }
    ∧ (Spec.durations s.cfg.u s.fLat).length = 199

/-- R183: REJECT, when GUARD is false. -/
def Obligations.RejectHasNoSideEffects : Prop :=
  ∀ s : State, s.phase = .ready → ¬ Spec.spaced s.ports.now s.lastTx →
    exec .reject s = .next (Spec.raised s .rateLimited)

/-- R185: FAIL, when the train is finished and the sink has answered failure. -/
def Obligations.FailCommitsNothing : Prop :=
  ∀ s : State, s.phase = .busy → s.k = 199 → Spec.answer s → s.ports.txOk = false →
    exec .fail s = .next (Spec.raised s .txFailed)

/-- R186: COMMIT, when the train is finished and the sink has answered success. -/
def Obligations.CommitWritesAllFive : Prop :=
  ∀ s : State, s.phase = .busy → s.k = 199 → Spec.answer s → s.ports.txOk = true →
    exec .commit s = .next (Spec.committed s)

/-- Run alone where R187 has no such transition, the parts of SEND stop by name (the model's choice, log 9): in the
wrong phase, on the wrong side of the guard, away from the step of START, before the train is finished, and without
the answer that the part is for. -/
def Obligations.PartsStopOutsideTheirTransition : Prop :=
  ∀ (s : State) (c : Command) (w : BitVec 16),
    (s.phase = .busy → exec (.start c) s = .fault .notEnabled ∧ exec (.accept w) s = .fault .notEnabled
      ∧ exec .reject s = .fault .notEnabled)
    ∧ (s.phase = .ready → exec .transmit s = .fault .notEnabled ∧ exec .fail s = .fault .notEnabled
      ∧ exec .commit s = .fault .notEnabled)
    ∧ (¬ Spec.spaced s.ports.now s.lastTx → exec (.start c) s = .fault .notEnabled
      ∧ exec (.accept w) s = .fault .notEnabled)
    ∧ (Spec.spaced s.ports.now s.lastTx → exec .reject s = .fault .notEnabled)
    ∧ (s.k ≠ 0 ∨ s.t ≠ 8 * s.cfg.u → exec .transmit s = .fault .notEnabled)
    ∧ (s.k < 199 → exec .fail s = .fault .notEnabled ∧ exec .commit s = .fault .notEnabled)
    ∧ (¬ Spec.answer s → exec .fail s = .fault .notEnabled ∧ exec .commit s = .fault .notEnabled)
    ∧ (s.ports.txOk = true → exec .fail s = .fault .notEnabled)
    ∧ (s.ports.txOk = false → exec .commit s = .fault .notEnabled)

/-! ## The mark/space timer -/

/-- R28, R161: the continuously driven outputs. -/
def Obligations.StatusOutputsFollowTheState : Prop :=
  ∀ s : State,
    (s.busy = true ↔ s.phase = .busy)
    ∧ (s.env = true ↔ s.phase = .busy ∧ s.k < 199 ∧ s.k % 2 = 0)
    ∧ s.carrierHz = s.cfg.carrierHz

/-- R163: TICK counts a slot down, then takes the next slot's duration, then rests at 199; nothing else changes. -/
def Obligations.TickCountsTheSlots : Prop :=
  ∀ s : State,
    (s.phase = .busy → s.k < 199 → 1 < s.t → exec .tick s = .next { s with t := s.t - 1 })
    ∧ (s.phase = .busy → s.k < 198 → s.t ≤ 1 → ∃ d, (trainOf s.fLat)[s.k + 1]? = some d
        ∧ exec .tick s = .next { s with k := s.k + 1, t := s.cfg.u * d })
    ∧ (s.phase = .busy → s.k = 198 → s.t ≤ 1 → exec .tick s = .next { s with k := 199, t := 0 })
    ∧ (s.phase = .ready ∨ 199 ≤ s.k → exec .tick s = .next s)

/-- R164: FINISH waits without an answer, ends the SEND on one, and has no step for an early one (the stop by name
is the model's choice, log 9). In READY it changes nothing: R251 says so of an answer to an abandoned call, and for
any other answer it is the model's choice (log 17). -/
def Obligations.FinishEndsTheSend : Prop :=
  ∀ s : State,
    (s.phase = .busy → ¬ Spec.answer s → exec .finish s = .next s)
    ∧ (s.phase = .busy → Spec.answer s → s.k = 199 → s.ports.txOk = true → exec .finish s = .next (Spec.committed s))
    ∧ (s.phase = .busy → Spec.answer s → s.k = 199 → s.ports.txOk = false →
        exec .finish s = .next (Spec.raised s .txFailed))
    ∧ (s.phase = .busy → Spec.answer s → s.k < 199 → exec .finish s = .fault .sinkAnswerEarly)
    ∧ (s.phase = .ready → exec .finish s = .next s)

/-- R166: from START of a canonical command, tick by tick, `env` is the waveform of the train the sink was called
with: 330 U ticks, slot k lasting U * DUR(F, k) of them at level 1 for even k; then `k` is 199 and `env` 0. -/
def Obligations.EnvelopeIsTheTrain : Prop :=
  ∀ (s s₁ : State) (c : Command), c.canonical = true → 0 < s.cfg.u → exec (.start c) s = .next s₁ →
    (waveform s.cfg.u (Spec.frame c)).length = 330 * s.cfg.u
    ∧ (∀ n, n < 330 * s.cfg.u → ∃ s₂, runTicks n s₁ = .next s₂ ∧ s₂.k < 199
        ∧ (waveform s.cfg.u (Spec.frame c))[n]? = some s₂.env)
    ∧ (∃ s₂, runTicks (330 * s.cfg.u) s₁ = .next s₂ ∧ s₂ = { s₁ with k := 199, t := 0 } ∧ s₂.env = false)

/-! ## Reset -/

/-- R250, R251: RESET in any state, BUSY ones included; `c_lat` and `F_lat` become free values (log 4). -/
def Obligations.ResetFromAnyState : Prop :=
  ∀ s : State, ∃ c f, exec .reset s = .next
    { s with st := s.cfg.rst, lastTx := s.cfg.rstLastTx, phase := .ready, k := 0, t := 0, cLat := c, fLat := f,
             out := { txStart := none, res := none, fb := none, conf := none }, sub := .none, free := s.free + 1 }

/-- R32: what reset leaves, with the model's default parameters (log 2, 3). -/
def Obligations.ResetStateValues : Prop :=
  State.reset.st = State.reset.cfg.rst ∧ State.reset.lastTx = State.reset.cfg.rstLastTx
  ∧ State.reset.phase = .ready ∧ State.reset.k = 0 ∧ State.reset.t = 0
  ∧ State.reset.busy = false ∧ State.reset.env = false ∧ State.reset.out.res = none
  ∧ State.reset.out.conf = none ∧ State.reset.out.fb = none

/-! ## Steps -/

/-- What a step runs, in every state: the reset event; in BUSY the sink's answer, else a tick, else the presented
request; in READY the presented request, else a tick; with none of these a word on the evaluation port, and with no
word nothing. The order of simultaneous inputs (log 8), the ports of the next step (log 1) and the evaluation port
(log 7) are the model's choice. -/
def Obligations.StepRunsTheDecodedInstruction : Prop :=
  (∀ s : State,
    (s.ports.rst = true → step s = Spec.ran s .reset)
    ∧ (s.ports.rst = false → s.phase = .busy → Spec.answer s → step s = Spec.ran s .finish)
    ∧ (s.ports.rst = false → s.phase = .busy → ¬ Spec.answer s → s.ports.tick = true → step s = Spec.ran s .tick)
    ∧ (∀ w i, s.presents w → s.phase = .busy → ¬ Spec.answer s → s.ports.tick = false → decode (.req w) = .ok i →
        step s = Spec.ran s i)
    ∧ (∀ w i, s.presents w → s.phase = .ready → decode (.req w) = .ok i → step s = Spec.ran s i)
    ∧ (s.ports.rst = false → s.phase = .ready → s.ports.reqValid = false → s.ports.tick = true →
        step s = Spec.ran s .tick)
    ∧ (∀ n x i, Spec.silent s → s.ports.probe = some (n, x) → n ≠ 16 → decodeTableWord n x = some i →
        step s = Spec.ran s i)
    ∧ (∀ n x, Spec.silent s → s.ports.probe = some (n, x) → n = 16 ∨ decodeTableWord n x = none →
        step s = .refused (.undecodable .noFormat))
    ∧ (Spec.silent s → s.ports.probe = none → step s = .next s.clearEvents.advance)
    ∧ s.clearEvents = { s with out := { txStart := none, res := none, fb := none, conf := none } })
  ∧ ∀ t : State,
    (∀ p ps, t.later = p :: ps → t.advance = { t with ports := p, later := ps })
    ∧ (t.later = [] → t.advance = { t with ports := Ports.idle t.ports.now })

/-- Presenting a request word makes the next step run exactly its SEND, in either phase. -/
def Obligations.WithFetchWordRunsTheWord : Prop :=
  ∀ (s t : State) (w : Nat) (i : Instr), decodeTableWord 16 w = some i →
    exec i (s.withFetchWord 16 w).clearEvents = .next t → step (s.withFetchWord 16 w) = .next t.advance

/-- R23, R32: for every legal choice of the OPEN parameters the state after reset meets the block invariant and is
READY. `State.reset` is one of these states; that its own parameters are legal rests on the values the model names
(log 2, 3). -/
def Obligations.ResetMeetsTheBlockInvariant : Prop :=
  (∀ p : Params, p.wf = true → Inv (State.resetWith p) ∧ (State.resetWith p).phase = .ready)
  ∧ Inv State.reset ∧ State.reset.phase = .ready

/-- R23 and the ranges of R20: every step from a state that meets the block invariant keeps it. -/
def Obligations.StepKeepsTheBlockInvariant : Prop :=
  ∀ s s' : State, Inv s → step s = .next s' → Inv s'

/-- R91 a, R164: with nothing on the model's evaluation port, the only stop is an answer that breaks the sink's
contract; no request and no time stops the block. -/
def Obligations.OnlyAnEarlyAnswerStopsTheBlock : Prop :=
  ∀ s : State, Inv s → s.ports.probe = none →
    (∃ s', step s = .next s')
    ∨ (step s = .fault .sinkAnswerEarly ∧ s.ports.rst = false ∧ s.phase = .busy ∧ s.k < 199 ∧ Spec.answer s)

/-- R186, R250: only a commit of the sink's success and a reset write DeviceState and `lastTx`. -/
def Obligations.OnlyCommitAndResetWriteDeviceState : Prop :=
  ∀ s s' : State, step s = .next s' → s.ports.rst = false →
    (s'.st = s.st ∧ s'.lastTx = s.lastTx)
    ∨ (s.phase = .busy ∧ 199 ≤ s.k ∧ Spec.answer s ∧ s.ports.txOk = true
        ∧ s'.st = s.cLat ∧ s'.lastTx = s.ports.now ∧ s'.out.res = some .ok)

/-- R255: BUSY is left only by an answer of the sink after the train, or by a reset. -/
def Obligations.BusyLeftOnlyByAnswerOrReset : Prop :=
  ∀ s s' : State, step s = .next s' → s.phase = .busy → s'.phase = .ready →
    s.ports.rst = true ∨ (199 ≤ s.k ∧ Spec.answer s)

/-- R165: while BUSY no step but a reset changes the latched command and frame, and none but a tick `k` and `t`;
`k` moves by at most one. -/
def Obligations.TrainInFlightIsFixed : Prop :=
  ∀ s s' : State, step s = .next s' → s.phase = .busy → s.ports.rst = false →
    s'.cLat = s.cLat ∧ s'.fLat = s.fLat
    ∧ (s.ports.tick = false → s'.k = s.k ∧ s'.t = s.t)
    ∧ (s'.k = s.k ∨ (s'.k = s.k + 1 ∧ s.k < 199))

/-- R211, R218, R219, R220: with nothing on the evaluation port, a step that ends a SEND drives outcome, feedback
(true exactly for OK) and, exactly for OK, the confirmation; every other step drives none of them. -/
def Obligations.OutcomeFeedbackConfirmationTogether : Prop :=
  ∀ s s' : State, step s = .next s' → s.ports.probe = none →
    (∀ x, s'.out.res = some x → s.ports.rst = false ∧ s'.out.fb = some (decide (x = .ok))
      ∧ (s'.out.conf.isSome = true ↔ x = .ok)
      ∧ (x = .rateLimited ↔ s.phase = .ready) ∧ s'.phase = .ready)
    ∧ (s'.out.res = none → s'.out.fb = none ∧ s'.out.conf = none)

/-- R184: the sink is called in the step of acceptance and in no other, with the train of the latched frame. -/
def Obligations.SinkCalledExactlyAtAcceptance : Prop :=
  ∀ s s' : State, step s = .next s' →
    (s'.out.txStart.isSome = true ↔ s.phase = .ready ∧ s'.phase = .busy)
    ∧ ∀ call, s'.out.txStart = some call →
        call = { durations := Spec.durations s'.cfg.u s'.fLat, carrierHz := s'.cfg.carrierHz }

/-- R26: no step writes the configuration. -/
def Obligations.ConfigurationIsNeverWritten : Prop :=
  ∀ s s' : State, step s = .next s' → s'.cfg = s.cfg

/-- R87: the confirmation word of a commit of a canonical command has the layout of a request word, decodes to a
SEND, and normalizes to the committed command. -/
def Obligations.ConfirmationWordIsTheCommittedCommand : Prop :=
  ∀ (c st : Command) (t1 : Time), c.canonical = true →
    let w := (confirmationOf c t1).word
    (w.extractLsb' 8 8).toNat = c.temp.toNat ∧ w.getLsbD 15 = false ∧ w.getLsbD 7 = c.power
    ∧ w.extractLsb' 4 3 = modeCode c.mode ∧ (w.extractLsb' 0 4).toNat = (fanCode c.fan).toNat
    ∧ (confirmationOf c t1).ts = t1 ∧ normalizeRequest (splitRequest w) st = c

/-- The model's own result field is read by no step: two states that differ in it alone step alike. -/
def Obligations.ResultFieldIsReadByNothing : Prop :=
  ∀ (s : State) (r : SubResult),
    (∀ t, step s = .next t → ∃ r', step { s with sub := r } = .next { t with sub := r' })
    ∧ (∀ f, step s = .fault f → step { s with sub := r } = .fault f)
    ∧ (∀ x, step s = .refused x → step { s with sub := r } = .refused x)

/-! ## Runs -/

/-- R4, R180: Level B refines Level A. A request taken in READY, then any steps that neither reset nor answer and
bring at least 330 U ticks, then the answer: the sink call, the registers and the outcome, feedback and confirmation
are those of the one transaction of R180 with the two readings of the time source; a rejected request is the
transaction already in its first step. -/
def Obligations.LevelBRefinesLevelA : Prop :=
  ∀ (s : State) (w : BitVec 16) (mid : List Ports) (ans : Ports) (rest : List Ports),
    s.phase = .ready → 0 < s.cfg.u → s.presents w → s.later = mid ++ ans :: rest →
    ∃ x, sendA s.cfg s.st s.lastTx (splitRequest w) s.ports.now ans.txOk ans.now = some x
    ∧ ∃ s₁, step s = .next s₁ ∧ s₁.out.txStart = x.out.txStart
      ∧ (¬ Spec.spaced s.ports.now s.lastTx →
          s₁.phase = .ready ∧ s₁.st = x.st ∧ s₁.lastTx = x.lastTx ∧ s₁.out = x.out)
      ∧ (Spec.spaced s.ports.now s.lastTx →
          (∀ p ∈ mid, p.quiet = true ∧ p.probe = none) → 330 * s.cfg.u ≤ mid.countP (·.tick) →
          ans.rst = false → ans.txDone = true → ans.txStale = false →
          ∃ s₂, Sys2Proof.core.run (mid.length + 2) s = .next s₂
            ∧ s₂.phase = .ready ∧ s₂.st = x.st ∧ s₂.lastTx = x.lastTx
            ∧ s₂.out.res = x.out.res ∧ s₂.out.fb = x.out.fb ∧ s₂.out.conf = x.out.conf)

/-- R190: between a commit at `t1` and the next accepted request, with no reset and no other commit between them,
at least 2000 ms (modulo 2^32) have passed on the time source. -/
def Obligations.AcceptedSendsAreSpacedAfterCommit : Prop :=
  ∀ (s₀ s₁ u u' : State) (n : Nat),
    step s₀ = .next s₁ → s₀.phase = .busy → s₁.out.res = some .ok → s₀.ports.probe = none →
    Sys2Proof.core.run n s₁ = .next u →
    (∀ m, m < n → ∀ v v', Sys2Proof.core.run m s₁ = .next v → step v = .next v' →
      v.ports.rst = false ∧ v'.out.res ≠ some .ok) →
    step u = .next u' → u.phase = .ready → u'.phase = .busy →
    Spec.spaced u.ports.now s₀.ports.now

/-- R191: the same request sent again after a success finds the same command: the second train is the first. -/
def Obligations.SameRequestSendsTheSameTrain : Prop :=
  ∀ (p : Params) (st : Command) (lastTx t0 t1 t0' t1' : Time) (r : Request) (x y : Transaction),
    sendA p st lastTx r t0 true t1 = some x → x.out.res = some .ok →
    sendA p x.st x.lastTx r t0' true t1' = some y → Spec.spaced t0' t1 →
    y.out.txStart = x.out.txStart ∧ y.st = x.st
    ∧ (∃ c, x.out.conf = some (confirmationOf c t1) ∧ y.out.conf = some (confirmationOf c t1'))

/-- R256: after a failed transmission the same request at the same time passes the guard again, and nothing of the
failed one is left in DeviceState. -/
def Obligations.RetryAfterFailureIsAccepted : Prop :=
  ∀ (s s₁ : State) (temperature : BitVec 8) (modeTok : BitVec 3) (fanTok : BitVec 4),
    s.phase = .busy → s.k = 199 → Spec.answer s → s.ports.txOk = false → exec .finish s = .next s₁ →
    Spec.spaced s.ports.now s.lastTx →
    s₁.st = s.st ∧ s₁.lastTx = s.lastTx
    ∧ (∃ s₂, exec (.sendOn temperature modeTok fanTok) s₁ = .next s₂ ∧ s₂.phase = .busy)
    ∧ (∃ s₂, exec (.sendOff temperature modeTok fanTok) s₁ = .next s₂ ∧ s₂.phase = .busy)
end

