-- ==== Sys2Proof/Laws/Decode.lean ====
section
/-! SUPPORT. The fields of packed words, both ways. -/

namespace Sys2Proof

@[simp] theorem splitRequest_packRequest (r : Request) : splitRequest (packRequest r) = r := by
  obtain ⟨t, p, m, f⟩ := r
  simp only [splitRequest, packRequest, Request.mk.injEq]
  refine ⟨?_, ?_, ?_, ?_⟩
  · ext i hi; simp; interval_cases i <;> simp
  · simp
  · ext i hi; simp; interval_cases i <;> simp
  · ext i hi; simp; interval_cases i <;> simp

@[simp] theorem packRequest_splitRequest (w : BitVec 16) : packRequest (splitRequest w) = w := by
  ext i hi
  simp [splitRequest, packRequest]
  interval_cases i <;> simp

@[simp] theorem packRequest_power (r : Request) : (packRequest r).getLsbD 7 = r.power :=
  congrArg Request.power (splitRequest_packRequest r)

@[simp] theorem packRequest_temperature (r : Request) : (packRequest r).extractLsb' 8 8 = r.temperature :=
  congrArg Request.temperature (splitRequest_packRequest r)

@[simp] theorem packRequest_modeTok (r : Request) : (packRequest r).extractLsb' 4 3 = r.modeTok :=
  congrArg Request.modeTok (splitRequest_packRequest r)

@[simp] theorem packRequest_fanTok (r : Request) : (packRequest r).extractLsb' 0 4 = r.fanTok :=
  congrArg Request.fanTok (splitRequest_packRequest r)

section
variable (fan state temp mode : Nibble)

@[simp] theorem packFrameWord_magic : (packFrameWord fan state temp mode).extractLsb' 16 8 = 0xB2 := by
  ext i hi; simp [packFrameWord]; interval_cases i <;> simp

@[simp] theorem packFrameWord_fan : (packFrameWord fan state temp mode).extractLsb' 12 4 = fan := by
  ext i hi; simp [packFrameWord]; interval_cases i <;> simp

@[simp] theorem packFrameWord_state : (packFrameWord fan state temp mode).extractLsb' 8 4 = state := by
  ext i hi; simp [packFrameWord]; interval_cases i <;> simp

@[simp] theorem packFrameWord_temp : (packFrameWord fan state temp mode).extractLsb' 4 4 = temp := by
  ext i hi; simp [packFrameWord]; interval_cases i <;> simp

@[simp] theorem packFrameWord_mode : (packFrameWord fan state temp mode).extractLsb' 0 4 = mode := by
  ext i hi; simp [packFrameWord]; interval_cases i <;> simp

end

/-- A request word of power on decodes to SEND.ON with its fields. -/
theorem decodeRequest_packRequest_on (t : BitVec 8) (m : BitVec 3) (f : BitVec 4) :
    decodeRequest (packRequest ⟨t, true, m, f⟩) = .sendOn t m f := by
  simp [decodeRequest]

/-- A request word of power off decodes to SEND.OFF with its fields. -/
theorem decodeRequest_packRequest_off (t : BitVec 8) (m : BitVec 3) (f : BitVec 4) :
    decodeRequest (packRequest ⟨t, false, m, f⟩) = .sendOff t m f := by
  simp [decodeRequest]

end Sys2Proof
end

