-- ==== Sys2Proof/Laws/Operands.lean ====
section
/-! SUPPORT. What the pure sub-operations give: the clamped temperature is canonical, so a frame exists (R113);
the fixed lengths and the bounds of the durations (R150 to R158). -/

namespace Sys2Proof.Machine

/-! ### Normalizer -/

theorem toNat_clampTemp (t : Int) : ((clampTemp t).toNat : Int) = max 17 (min 30 t) := by
  unfold clampTemp tMin tMax
  rw [BitVec.toNat_ofInt]
  split
  · simp; omega
  · split
    · simp; omega
    · rw [show ((2 : Nat) ^ 5 : Nat) = 32 from rfl]; push_cast; omega

theorem clampTemp_canonical (t : Int) : (clampTemp t).canonical = true := by
  have := toNat_clampTemp t
  simp [Temp.canonical]; omega

@[simp] theorem normalizeRequest_canonical (r : Request) (st : Command) :
    (normalizeRequest r st).canonical = true :=
  clampTemp_canonical _

@[simp] theorem normalizeRequest_power (r : Request) (st : Command) : (normalizeRequest r st).power = r.power := rfl

/-! ### Mapper and frame -/

theorem mapTemp_isSome_iff (t : Temp) : (mapTemp t).isSome = t.canonical := by revert t; decide

theorem mapMode_isSome (m : Mode) : (mapMode m).isSome = true := by cases m <;> rfl

theorem mapFan_isSome (f : Fan) : (mapFan f).isSome = true := by cases f <;> rfl

theorem packNibbles_eq_append (a b : Nibble) : packNibbles a b = a ++ b := by revert a b; decide

/-- A canonical command has a frame: no table read fails (R113, R56 b). -/
theorem frameOf_of_canonical {c : Command} (h : c.canonical = true) : ∃ f, frameOf c = some f := by
  obtain ⟨n, hn⟩ := Option.isSome_iff_exists.mp (mapFan_isSome c.fan)
  obtain ⟨m, hm⟩ := Option.isSome_iff_exists.mp (mapMode_isSome c.mode)
  have ht : (tempNibble c.power c.temp).isSome = true := by
    cases hp : c.power
    · rfl
    · exact (mapTemp_isSome_iff c.temp).trans h
  obtain ⟨t, ht⟩ := Option.isSome_iff_exists.mp ht
  exact ⟨frameOfNibbles n (mapState c.power) t m, by simp [frameOf, hn, hm, ht]⟩

/-! ### Durations -/

@[simp] theorem symDurations_length (b : Bool) : (symDurations b).length = 2 := by cases b <;> rfl

@[simp] theorem encByte_length (b : Byte) : (encByte b).length = 16 := by simp [encByte]

@[simp] theorem encPair_length (b : Byte) : (encPair b).length = 32 := by simp [encPair]

@[simp] theorem repOf_length (f : Frame) : (repOf f).length = repLen := by simp [repOf, repLen]

@[simp] theorem trainOf_length (f : Frame) : (trainOf f).length = trainLen := by
  simp [trainOf, repLen, trainLen]

@[simp] theorem sinkDurations_length (u : Nat) (f : Frame) : (sinkDurations u f).length = trainLen := by
  simp [sinkDurations]

/-- Every slot lasts 1, 3 or 8 units (R157). -/
theorem slotDur_mem (f : Frame) (k : Nat) : slotDur f k = 1 ∨ slotDur f k = 3 ∨ slotDur f k = 8 := by
  simp only [slotDur, gap, hdrMark, hdrSpace, bitMark, oneSpace, zeroSpace]
  repeat' split
  all_goals simp

theorem slotDur_pos (f : Frame) (k : Nat) : 1 ≤ slotDur f k := by have := slotDur_mem f k; omega

theorem slotDur_le (f : Frame) (k : Nat) : slotDur f k ≤ 8 := by have := slotDur_mem f k; omega

@[simp] theorem slotDur_zero (f : Frame) : slotDur f 0 = 8 := rfl

end Sys2Proof.Machine
end

