-- ==== Sys2Proof/Laws/State.lean ====
section
/-! SUPPORT. One lemma for each field and each update of the state, so that no proof unfolds a record update. -/

namespace Sys2Proof.Machine

/-! ### State.setSub -/

@[simp] theorem State.setSub_cfg (s : State) (r : SubResult) : (s.setSub r).cfg = s.cfg := rfl
@[simp] theorem State.setSub_st (s : State) (r : SubResult) : (s.setSub r).st = s.st := rfl
@[simp] theorem State.setSub_lastTx (s : State) (r : SubResult) : (s.setSub r).lastTx = s.lastTx := rfl
@[simp] theorem State.setSub_phase (s : State) (r : SubResult) : (s.setSub r).phase = s.phase := rfl
@[simp] theorem State.setSub_cLat (s : State) (r : SubResult) : (s.setSub r).cLat = s.cLat := rfl
@[simp] theorem State.setSub_fLat (s : State) (r : SubResult) : (s.setSub r).fLat = s.fLat := rfl
@[simp] theorem State.setSub_k (s : State) (r : SubResult) : (s.setSub r).k = s.k := rfl
@[simp] theorem State.setSub_t (s : State) (r : SubResult) : (s.setSub r).t = s.t := rfl
@[simp] theorem State.setSub_ports (s : State) (r : SubResult) : (s.setSub r).ports = s.ports := rfl
@[simp] theorem State.setSub_later (s : State) (r : SubResult) : (s.setSub r).later = s.later := rfl
@[simp] theorem State.setSub_out (s : State) (r : SubResult) : (s.setSub r).out = s.out := rfl
@[simp] theorem State.setSub_sub (s : State) (r : SubResult) : (s.setSub r).sub = r := rfl
@[simp] theorem State.setSub_free (s : State) (r : SubResult) : (s.setSub r).free = s.free := rfl

/-! ### State.raiseOutcome -/

@[simp] theorem State.raiseOutcome_cfg (s : State) (x : Result) : (s.raiseOutcome x).cfg = s.cfg := rfl
@[simp] theorem State.raiseOutcome_st (s : State) (x : Result) : (s.raiseOutcome x).st = s.st := rfl
@[simp] theorem State.raiseOutcome_lastTx (s : State) (x : Result) : (s.raiseOutcome x).lastTx = s.lastTx := rfl
@[simp] theorem State.raiseOutcome_phase (s : State) (x : Result) : (s.raiseOutcome x).phase = .ready := rfl
@[simp] theorem State.raiseOutcome_cLat (s : State) (x : Result) : (s.raiseOutcome x).cLat = s.cLat := rfl
@[simp] theorem State.raiseOutcome_fLat (s : State) (x : Result) : (s.raiseOutcome x).fLat = s.fLat := rfl
@[simp] theorem State.raiseOutcome_k (s : State) (x : Result) : (s.raiseOutcome x).k = s.k := rfl
@[simp] theorem State.raiseOutcome_t (s : State) (x : Result) : (s.raiseOutcome x).t = s.t := rfl
@[simp] theorem State.raiseOutcome_ports (s : State) (x : Result) : (s.raiseOutcome x).ports = s.ports := rfl
@[simp] theorem State.raiseOutcome_later (s : State) (x : Result) : (s.raiseOutcome x).later = s.later := rfl
@[simp] theorem State.raiseOutcome_out (s : State) (x : Result) : (s.raiseOutcome x).out = { s.out with res := some x, fb := some false } := rfl
@[simp] theorem State.raiseOutcome_sub (s : State) (x : Result) : (s.raiseOutcome x).sub = s.sub := rfl
@[simp] theorem State.raiseOutcome_free (s : State) (x : Result) : (s.raiseOutcome x).free = s.free := rfl

/-! ### State.startTrain -/

@[simp] theorem State.startTrain_cfg (s : State) (c : Command) (f : Frame) : (s.startTrain c f).cfg = s.cfg := rfl
@[simp] theorem State.startTrain_st (s : State) (c : Command) (f : Frame) : (s.startTrain c f).st = s.st := rfl
@[simp] theorem State.startTrain_lastTx (s : State) (c : Command) (f : Frame) : (s.startTrain c f).lastTx = s.lastTx := rfl
@[simp] theorem State.startTrain_phase (s : State) (c : Command) (f : Frame) : (s.startTrain c f).phase = .busy := rfl
@[simp] theorem State.startTrain_cLat (s : State) (c : Command) (f : Frame) : (s.startTrain c f).cLat = c := rfl
@[simp] theorem State.startTrain_fLat (s : State) (c : Command) (f : Frame) : (s.startTrain c f).fLat = f := rfl
@[simp] theorem State.startTrain_k (s : State) (c : Command) (f : Frame) : (s.startTrain c f).k = 0 := rfl
@[simp] theorem State.startTrain_t (s : State) (c : Command) (f : Frame) : (s.startTrain c f).t = s.cfg.u * slotDur f 0 := rfl
@[simp] theorem State.startTrain_ports (s : State) (c : Command) (f : Frame) : (s.startTrain c f).ports = s.ports := rfl
@[simp] theorem State.startTrain_later (s : State) (c : Command) (f : Frame) : (s.startTrain c f).later = s.later := rfl
@[simp] theorem State.startTrain_out (s : State) (c : Command) (f : Frame) : (s.startTrain c f).out = s.out := rfl
@[simp] theorem State.startTrain_sub (s : State) (c : Command) (f : Frame) : (s.startTrain c f).sub = s.sub := rfl
@[simp] theorem State.startTrain_free (s : State) (c : Command) (f : Frame) : (s.startTrain c f).free = s.free := rfl

/-! ### State.callSink -/

@[simp] theorem State.callSink_cfg (s : State) : (s.callSink).cfg = s.cfg := rfl
@[simp] theorem State.callSink_st (s : State) : (s.callSink).st = s.st := rfl
@[simp] theorem State.callSink_lastTx (s : State) : (s.callSink).lastTx = s.lastTx := rfl
@[simp] theorem State.callSink_phase (s : State) : (s.callSink).phase = s.phase := rfl
@[simp] theorem State.callSink_cLat (s : State) : (s.callSink).cLat = s.cLat := rfl
@[simp] theorem State.callSink_fLat (s : State) : (s.callSink).fLat = s.fLat := rfl
@[simp] theorem State.callSink_k (s : State) : (s.callSink).k = s.k := rfl
@[simp] theorem State.callSink_t (s : State) : (s.callSink).t = s.t := rfl
@[simp] theorem State.callSink_ports (s : State) : (s.callSink).ports = s.ports := rfl
@[simp] theorem State.callSink_later (s : State) : (s.callSink).later = s.later := rfl
@[simp] theorem State.callSink_out (s : State) : (s.callSink).out = { s.out with txStart := some { durations := sinkDurations s.cfg.u s.fLat, carrierHz := s.cfg.carrierHz } } := rfl
@[simp] theorem State.callSink_sub (s : State) : (s.callSink).sub = s.sub := rfl
@[simp] theorem State.callSink_free (s : State) : (s.callSink).free = s.free := rfl

/-! ### State.commitSend -/

@[simp] theorem State.commitSend_cfg (s : State) : (s.commitSend).cfg = s.cfg := rfl
@[simp] theorem State.commitSend_st (s : State) : (s.commitSend).st = s.cLat := rfl
@[simp] theorem State.commitSend_lastTx (s : State) : (s.commitSend).lastTx = s.ports.now := rfl
@[simp] theorem State.commitSend_phase (s : State) : (s.commitSend).phase = .ready := rfl
@[simp] theorem State.commitSend_cLat (s : State) : (s.commitSend).cLat = s.cLat := rfl
@[simp] theorem State.commitSend_fLat (s : State) : (s.commitSend).fLat = s.fLat := rfl
@[simp] theorem State.commitSend_k (s : State) : (s.commitSend).k = s.k := rfl
@[simp] theorem State.commitSend_t (s : State) : (s.commitSend).t = s.t := rfl
@[simp] theorem State.commitSend_ports (s : State) : (s.commitSend).ports = s.ports := rfl
@[simp] theorem State.commitSend_later (s : State) : (s.commitSend).later = s.later := rfl
@[simp] theorem State.commitSend_out (s : State) : (s.commitSend).out = { s.out with res := some .ok, fb := some true, conf := some (confirmationOf s.cLat s.ports.now) } := rfl
@[simp] theorem State.commitSend_sub (s : State) : (s.commitSend).sub = s.sub := rfl
@[simp] theorem State.commitSend_free (s : State) : (s.commitSend).free = s.free := rfl

/-! ### State.resetBlock -/

@[simp] theorem State.resetBlock_cfg (s : State) : (s.resetBlock).cfg = s.cfg := rfl
@[simp] theorem State.resetBlock_st (s : State) : (s.resetBlock).st = s.cfg.rst := rfl
@[simp] theorem State.resetBlock_lastTx (s : State) : (s.resetBlock).lastTx = s.cfg.rstLastTx := rfl
@[simp] theorem State.resetBlock_phase (s : State) : (s.resetBlock).phase = .ready := rfl
@[simp] theorem State.resetBlock_cLat (s : State) : (s.resetBlock).cLat = Config.freeCommand s.free := rfl
@[simp] theorem State.resetBlock_fLat (s : State) : (s.resetBlock).fLat = Config.freeFrame s.free := rfl
@[simp] theorem State.resetBlock_k (s : State) : (s.resetBlock).k = 0 := rfl
@[simp] theorem State.resetBlock_t (s : State) : (s.resetBlock).t = 0 := rfl
@[simp] theorem State.resetBlock_ports (s : State) : (s.resetBlock).ports = s.ports := rfl
@[simp] theorem State.resetBlock_later (s : State) : (s.resetBlock).later = s.later := rfl
@[simp] theorem State.resetBlock_out (s : State) : (s.resetBlock).out = Outputs.none := rfl
@[simp] theorem State.resetBlock_sub (s : State) : (s.resetBlock).sub = .none := rfl
@[simp] theorem State.resetBlock_free (s : State) : (s.resetBlock).free = s.free + 1 := rfl

/-! ### State.clearEvents -/

@[simp] theorem State.clearEvents_cfg (s : State) : (s.clearEvents).cfg = s.cfg := rfl
@[simp] theorem State.clearEvents_st (s : State) : (s.clearEvents).st = s.st := rfl
@[simp] theorem State.clearEvents_lastTx (s : State) : (s.clearEvents).lastTx = s.lastTx := rfl
@[simp] theorem State.clearEvents_phase (s : State) : (s.clearEvents).phase = s.phase := rfl
@[simp] theorem State.clearEvents_cLat (s : State) : (s.clearEvents).cLat = s.cLat := rfl
@[simp] theorem State.clearEvents_fLat (s : State) : (s.clearEvents).fLat = s.fLat := rfl
@[simp] theorem State.clearEvents_k (s : State) : (s.clearEvents).k = s.k := rfl
@[simp] theorem State.clearEvents_t (s : State) : (s.clearEvents).t = s.t := rfl
@[simp] theorem State.clearEvents_ports (s : State) : (s.clearEvents).ports = s.ports := rfl
@[simp] theorem State.clearEvents_later (s : State) : (s.clearEvents).later = s.later := rfl
@[simp] theorem State.clearEvents_out (s : State) : (s.clearEvents).out = Outputs.none := rfl
@[simp] theorem State.clearEvents_sub (s : State) : (s.clearEvents).sub = s.sub := rfl
@[simp] theorem State.clearEvents_free (s : State) : (s.clearEvents).free = s.free := rfl

/-! ### State.nextSlot -/

@[simp] theorem State.nextSlot_cfg (s : State) : s.nextSlot.cfg = s.cfg := by
  unfold State.nextSlot; split <;> rfl
@[simp] theorem State.nextSlot_st (s : State) : s.nextSlot.st = s.st := by
  unfold State.nextSlot; split <;> rfl
@[simp] theorem State.nextSlot_lastTx (s : State) : s.nextSlot.lastTx = s.lastTx := by
  unfold State.nextSlot; split <;> rfl
@[simp] theorem State.nextSlot_phase (s : State) : s.nextSlot.phase = s.phase := by
  unfold State.nextSlot; split <;> rfl
@[simp] theorem State.nextSlot_cLat (s : State) : s.nextSlot.cLat = s.cLat := by
  unfold State.nextSlot; split <;> rfl
@[simp] theorem State.nextSlot_fLat (s : State) : s.nextSlot.fLat = s.fLat := by
  unfold State.nextSlot; split <;> rfl
@[simp] theorem State.nextSlot_ports (s : State) : s.nextSlot.ports = s.ports := by
  unfold State.nextSlot; split <;> rfl
@[simp] theorem State.nextSlot_later (s : State) : s.nextSlot.later = s.later := by
  unfold State.nextSlot; split <;> rfl
@[simp] theorem State.nextSlot_out (s : State) : s.nextSlot.out = s.out := by
  unfold State.nextSlot; split <;> rfl
@[simp] theorem State.nextSlot_sub (s : State) : s.nextSlot.sub = s.sub := by
  unfold State.nextSlot; split <;> rfl
@[simp] theorem State.nextSlot_free (s : State) : s.nextSlot.free = s.free := by
  unfold State.nextSlot; split <;> rfl

/-! ### State.tickTimer -/

@[simp] theorem State.tickTimer_cfg (s : State) : s.tickTimer.cfg = s.cfg := by
  unfold State.tickTimer; split
  · split
    · rfl
    · exact s.nextSlot_cfg
  · rfl
@[simp] theorem State.tickTimer_st (s : State) : s.tickTimer.st = s.st := by
  unfold State.tickTimer; split
  · split
    · rfl
    · exact s.nextSlot_st
  · rfl
@[simp] theorem State.tickTimer_lastTx (s : State) : s.tickTimer.lastTx = s.lastTx := by
  unfold State.tickTimer; split
  · split
    · rfl
    · exact s.nextSlot_lastTx
  · rfl
@[simp] theorem State.tickTimer_phase (s : State) : s.tickTimer.phase = s.phase := by
  unfold State.tickTimer; split
  · split
    · rfl
    · exact s.nextSlot_phase
  · rfl
@[simp] theorem State.tickTimer_cLat (s : State) : s.tickTimer.cLat = s.cLat := by
  unfold State.tickTimer; split
  · split
    · rfl
    · exact s.nextSlot_cLat
  · rfl
@[simp] theorem State.tickTimer_fLat (s : State) : s.tickTimer.fLat = s.fLat := by
  unfold State.tickTimer; split
  · split
    · rfl
    · exact s.nextSlot_fLat
  · rfl
@[simp] theorem State.tickTimer_ports (s : State) : s.tickTimer.ports = s.ports := by
  unfold State.tickTimer; split
  · split
    · rfl
    · exact s.nextSlot_ports
  · rfl
@[simp] theorem State.tickTimer_later (s : State) : s.tickTimer.later = s.later := by
  unfold State.tickTimer; split
  · split
    · rfl
    · exact s.nextSlot_later
  · rfl
@[simp] theorem State.tickTimer_out (s : State) : s.tickTimer.out = s.out := by
  unfold State.tickTimer; split
  · split
    · rfl
    · exact s.nextSlot_out
  · rfl
@[simp] theorem State.tickTimer_sub (s : State) : s.tickTimer.sub = s.sub := by
  unfold State.tickTimer; split
  · split
    · rfl
    · exact s.nextSlot_sub
  · rfl
@[simp] theorem State.tickTimer_free (s : State) : s.tickTimer.free = s.free := by
  unfold State.tickTimer; split
  · split
    · rfl
    · exact s.nextSlot_free
  · rfl

/-! ### State.advance -/

@[simp] theorem State.advance_cfg (s : State) : s.advance.cfg = s.cfg := by
  unfold State.advance; split <;> rfl
@[simp] theorem State.advance_st (s : State) : s.advance.st = s.st := by
  unfold State.advance; split <;> rfl
@[simp] theorem State.advance_lastTx (s : State) : s.advance.lastTx = s.lastTx := by
  unfold State.advance; split <;> rfl
@[simp] theorem State.advance_phase (s : State) : s.advance.phase = s.phase := by
  unfold State.advance; split <;> rfl
@[simp] theorem State.advance_cLat (s : State) : s.advance.cLat = s.cLat := by
  unfold State.advance; split <;> rfl
@[simp] theorem State.advance_fLat (s : State) : s.advance.fLat = s.fLat := by
  unfold State.advance; split <;> rfl
@[simp] theorem State.advance_k (s : State) : s.advance.k = s.k := by
  unfold State.advance; split <;> rfl
@[simp] theorem State.advance_t (s : State) : s.advance.t = s.t := by
  unfold State.advance; split <;> rfl
@[simp] theorem State.advance_out (s : State) : s.advance.out = s.out := by
  unfold State.advance; split <;> rfl
@[simp] theorem State.advance_sub (s : State) : s.advance.sub = s.sub := by
  unfold State.advance; split <;> rfl
@[simp] theorem State.advance_free (s : State) : s.advance.free = s.free := by
  unfold State.advance; split <;> rfl

@[simp] theorem State.nextSlot_k (s : State) : s.nextSlot.k = s.k + 1 := by
  unfold State.nextSlot; split <;> rfl

/-- The new slot's duration, or 0 when the train is finished (R163). -/
theorem State.nextSlot_t (s : State) :
    s.nextSlot.t = if s.k + 1 < trainLen then s.cfg.u * slotDur s.fLat (s.k + 1) else 0 := by
  unfold State.nextSlot dur?
  by_cases h : s.k + 1 < trainLen <;> simp [h]

/-! ### Setting the model's own field twice, and commuting with the others -/

@[simp] theorem State.setSub_setSub (s : State) (r r' : SubResult) : (s.setSub r).setSub r' = s.setSub r' := rfl
@[simp] theorem State.setSub_self (s : State) : s.setSub s.sub = s := rfl

end Sys2Proof.Machine
end

