-- ==== Sys2Proof/Laws/Ops.lean ====
section
/-! SUPPORT. What each shared operation can do, once: the provers cite these instead of unfolding. -/

namespace Sys2Proof.Machine

variable {s s' : State}

/-- An accepted request always starts a train: the command is canonical, so its frame exists (R113). -/
theorem acceptRequest_eq (r : Request) (s : State) :
    ∃ f, frameOf (normalizeRequest r s.st) = some f
      ∧ acceptRequest r s = .next (s.startTrain (normalizeRequest r s.st) f).callSink := by
  obtain ⟨f, hf⟩ := frameOf_of_canonical (normalizeRequest_canonical r s.st)
  exact ⟨f, hf, by simp [acceptRequest, startCommand, hf]⟩

theorem sendRequest_busy (r : Request) (h : s.phase = .busy) : sendRequest r s = .next s := by
  simp [sendRequest, h]

theorem sendRequest_rejected (r : Request) (h : s.phase = .ready) (hg : s.guardNow = false) :
    sendRequest r s = .next (s.raiseOutcome .rateLimited) := by
  simp [sendRequest, h, hg]

theorem sendRequest_accepted (r : Request) (h : s.phase = .ready) (hg : s.guardNow = true) :
    sendRequest r s = acceptRequest r s := by
  simp [sendRequest, h, hg]

/-- SEND never stops (R91 a). -/
theorem sendRequest_next (r : Request) (s : State) : ∃ t, sendRequest r s = .next t := by
  cases h : s.phase
  · cases hg : s.guardNow
    · exact ⟨_, sendRequest_rejected r h hg⟩
    · obtain ⟨f, _, hf⟩ := acceptRequest_eq r s
      exact ⟨_, (sendRequest_accepted r h hg).trans hf⟩
  · exact ⟨_, sendRequest_busy r h⟩

/-- Everything FINISH can do when it answers a next state. -/
theorem finishSend_cases (h : finishSend s = .next s') :
    ((s.phase = .ready ∨ s.answered = false) ∧ s' = s)
    ∨ (s.phase = .busy ∧ s.answered = true ∧ trainLen ≤ s.k ∧
        ((s.ports.txOk = true ∧ s' = s.commitSend) ∨ (s.ports.txOk = false ∧ s' = s.raiseOutcome .txFailed))) := by
  unfold finishSend at h
  split at h
  · next hw => exact .inl ⟨hw, by cases h; rfl⟩
  · next hw =>
    have hb : s.phase = .busy := by cases hp : s.phase <;> simp_all
    have ha : s.answered = true := by cases ha : s.answered <;> simp_all
    split at h
    · cases h
    · next hk =>
      refine .inr ⟨hb, ha, by omega, ?_⟩
      cases ho : s.ports.txOk <;> simp [ho] at h <;> simp [h]

/-- What TICK does to the slot index and the counter. -/
theorem tickTimer_cases (s : State) :
    ((s.phase = .ready ∨ trainLen ≤ s.k) ∧ s.tickTimer = s)
    ∨ (s.phase = .busy ∧ s.k < trainLen ∧ 1 < s.t ∧ s.tickTimer = { s with t := s.t - 1 })
    ∨ (s.phase = .busy ∧ s.k < trainLen ∧ s.t ≤ 1 ∧ s.tickTimer = s.nextSlot) := by
  unfold State.tickTimer
  by_cases h : s.phase = .busy ∧ s.k < trainLen
  · by_cases ht : 1 < s.t
    · exact .inr (.inl ⟨h.1, h.2, ht, by simp [h, ht]⟩)
    · exact .inr (.inr ⟨h.1, h.2, by omega, by simp [h, ht]⟩)
  · refine .inl ⟨?_, by simp [h]⟩
    cases hp : s.phase
    · exact .inl rfl
    · exact .inr (by by_contra hk; exact h ⟨hp, by omega⟩)

/-! ### Frames of the two updates that depend on the state -/

@[simp] theorem clearEvents_guardNow (s : State) : s.clearEvents.guardNow = s.guardNow := rfl
@[simp] theorem clearEvents_answered (s : State) : s.clearEvents.answered = s.answered := rfl
@[simp] theorem setSub_guardNow (s : State) (r : SubResult) : (s.setSub r).guardNow = s.guardNow := rfl

theorem advance_of_later {p : Ports} {ps : List Ports} (h : s.later = p :: ps) :
    s.advance = { s with ports := p, later := ps } := by simp [State.advance, h]

theorem advance_of_nil (h : s.later = []) : s.advance = { s with ports := Ports.idle s.ports.now } := by
  simp [State.advance, h]

end Sys2Proof.Machine
end

