-- ==== Sys2Proof/Laws/PerInstr.lean ====
section
/-! SUPPORT. Decoding an encoded instruction gives it back, one lemma for each constructor. -/

namespace Sys2Proof.Laws.Encoding

/-- The word of the instruction, if it has one, decodes to it. -/
def Statement (i : Instr) : Prop := WellFormed i = true → ∀ c, encode i = some c → decode c = .ok i

/-- An instruction without an encoding has nothing to decode. -/
theorem of_none {i : Instr} (h : encode i = none) : Statement i := by
  intro _ c hc; rw [h] at hc; cases hc

/-- An instruction whose one word decodes to it. -/
theorem of_word {i : Instr} {w : Code} (h : encode i = some w) (hd : decode w = .ok i) : Statement i := by
  intro _ c hc; rw [h] at hc; cases hc; exact hd

theorem sendOn (temperature : BitVec 8) (modeTok : BitVec 3) (fanTok : BitVec 4) : Statement (.sendOn temperature modeTok fanTok) := of_word rfl (congrArg Except.ok (decodeRequest_packRequest_on temperature modeTok fanTok))
theorem sendOff (temperature : BitVec 8) (modeTok : BitVec 3) (fanTok : BitVec 4) : Statement (.sendOff temperature modeTok fanTok) := of_word rfl (congrArg Except.ok (decodeRequest_packRequest_off temperature modeTok fanTok))
theorem modeCool : Statement .modeCool := of_word rfl rfl
theorem modeHeat : Statement .modeHeat := of_word rfl rfl
theorem modeAuto : Statement .modeAuto := of_word rfl rfl
theorem modeFan : Statement .modeFan := of_word rfl rfl
theorem modeDry : Statement .modeDry := of_word rfl rfl
theorem modeKeep5 : Statement .modeKeep5 := of_word rfl rfl
theorem modeKeep6 : Statement .modeKeep6 := of_word rfl rfl
theorem modeKeep7 : Statement .modeKeep7 := of_word rfl rfl
theorem fantokAuto : Statement .fantokAuto := of_word rfl rfl
theorem fantokLow : Statement .fantokLow := of_word rfl rfl
theorem fantokMedium : Statement .fantokMedium := of_word rfl rfl
theorem fantokHigh : Statement .fantokHigh := of_word rfl rfl
theorem fantokKeep4to7 (low : BitVec 2) : Statement (.fantokKeep4to7 low) := of_word rfl (by revert low; decide)
theorem fantokKeep8to15 (low : BitVec 3) : Statement (.fantokKeep8to15 low) := of_word rfl (by revert low; decide)
theorem frame (fanNibble stateNibble tempNibble modeNibble : Nibble) : Statement (.frame fanNibble stateNibble tempNibble modeNibble) := of_word rfl (by simp [decode, decodeFrameWord])
theorem fannibAuto : Statement .fannibAuto := of_word rfl rfl
theorem fannibLow : Statement .fannibLow := of_word rfl rfl
theorem fannibMedium : Statement .fannibMedium := of_word rfl rfl
theorem fannibHigh : Statement .fannibHigh := of_word rfl rfl
theorem statenibOn : Statement .statenibOn := of_word rfl rfl
theorem statenibOff : Statement .statenibOff := of_word rfl rfl
theorem tempnib17 : Statement .tempnib17 := of_word rfl rfl
theorem tempnib18 : Statement .tempnib18 := of_word rfl rfl
theorem tempnib19 : Statement .tempnib19 := of_word rfl rfl
theorem tempnib20 : Statement .tempnib20 := of_word rfl rfl
theorem tempnib21 : Statement .tempnib21 := of_word rfl rfl
theorem tempnib22 : Statement .tempnib22 := of_word rfl rfl
theorem tempnib23 : Statement .tempnib23 := of_word rfl rfl
theorem tempnib24 : Statement .tempnib24 := of_word rfl rfl
theorem tempnib25 : Statement .tempnib25 := of_word rfl rfl
theorem tempnib26 : Statement .tempnib26 := of_word rfl rfl
theorem tempnib27 : Statement .tempnib27 := of_word rfl rfl
theorem tempnib28 : Statement .tempnib28 := of_word rfl rfl
theorem tempnib29 : Statement .tempnib29 := of_word rfl rfl
theorem tempnib30 : Statement .tempnib30 := of_word rfl rfl
theorem tempnibOff : Statement .tempnibOff := of_word rfl rfl
theorem modenibCool : Statement .modenibCool := of_word rfl rfl
theorem modenibHeat : Statement .modenibHeat := of_word rfl rfl
theorem modenibAuto : Statement .modenibAuto := of_word rfl rfl
theorem modenibFan : Statement .modenibFan := of_word rfl rfl
theorem modenibDry : Statement .modenibDry := of_word rfl rfl
theorem symHdr : Statement .symHdr := of_word rfl rfl
theorem symBit0 : Statement .symBit0 := of_word rfl rfl
theorem symBit1 : Statement .symBit1 := of_word rfl rfl
theorem symStop : Statement .symStop := of_word rfl rfl
theorem symGap : Statement .symGap := of_word rfl rfl
theorem outcomeOk : Statement .outcomeOk := of_word rfl rfl
theorem outcomeRateLimited : Statement .outcomeRateLimited := of_word rfl rfl
theorem outcomeTxFailed : Statement .outcomeTxFailed := of_word rfl rfl
theorem normalize (req : BitVec 16) : Statement (.normalize req) := of_none rfl
theorem clamp (t : Int) : Statement (.clamp t) := of_none rfl
theorem tokenFallback (modeTok : BitVec 3) (fanTok : BitVec 4) : Statement (.tokenFallback modeTok fanTok) := of_none rfl
theorem maptemp (temp : Temp) : Statement (.maptemp temp) := of_none rfl
theorem mapmode (mode : Mode) : Statement (.mapmode mode) := of_none rfl
theorem mapfan (fan : Fan) : Statement (.mapfan fan) := of_none rfl
theorem mapstate (power : Bool) : Statement (.mapstate power) := of_none rfl
theorem tempnib (power : Bool) (temp : Temp) : Statement (.tempnib power temp) := of_none rfl
theorem frameBuild (c : Command) : Statement (.frameBuild c) := of_none rfl
theorem sym (b : Bool) : Statement (.sym b) := of_none rfl
theorem encbyte (b : Byte) : Statement (.encbyte b) := of_none rfl
theorem encpair (b : Byte) : Statement (.encpair b) := of_none rfl
theorem rep (f : Frame) : Statement (.rep f) := of_none rfl
theorem train (f : Frame) : Statement (.train f) := of_none rfl
theorem dur (f : Frame) (k : Nat) : Statement (.dur f k) := of_none rfl
theorem start (c : Command) : Statement (.start c) := of_none rfl
theorem tick : Statement .tick := of_none rfl
theorem finish : Statement .finish := of_none rfl
theorem guard (t0 : Time) : Statement (.guard t0) := of_none rfl
theorem accept (req : BitVec 16) : Statement (.accept req) := of_none rfl
theorem reject : Statement .reject := of_none rfl
theorem transmit : Statement .transmit := of_none rfl
theorem fail : Statement .fail := of_none rfl
theorem commit : Statement .commit := of_none rfl
theorem reset : Statement .reset := of_none rfl

end Sys2Proof.Laws.Encoding
end

