-- ==== Sys2Proof/Laws/Step.lean ====
section
/-! SUPPORT. What a step can do, once: every claim about steps is a case analysis over `step_cases`. -/

namespace Sys2Proof.Machine

variable {s s' : State}

/-! ### Rows that have a word -/

/-- What a row with an encoding does: the two SEND rows send, every other row sets the result field or drives an
outcome code, and completes. -/
theorem exec_of_encode {i : Instr} {c : Code} (h : encode i = some c) (s : State) :
    ((∃ w, c = .req w) ∧ ∃ r, exec i s = sendRequest r s)
    ∨ (∃ v, exec i s = .next (s.setSub v))
    ∨ (∃ x, exec i s = .next { s with out := { s.out with res := some x } }) := by
  cases i
  case sendOn t m f =>
    exact .inl ⟨⟨_, (Option.some.inj h).symm⟩, ⟨t, true, m, f⟩, rfl⟩
  case sendOff t m f =>
    exact .inl ⟨⟨_, (Option.some.inj h).symm⟩, ⟨t, false, m, f⟩, rfl⟩
  all_goals first
    | exact .inr (.inl ⟨_, rfl⟩)
    | exact .inr (.inr ⟨_, rfl⟩)
    | cases h

theorem decodeExact_encode {c : Code} {i : Instr} (h : decodeExact c = some i) : encode i = some c := by
  unfold decodeExact at h
  split at h
  · split at h
    · next hc => cases h; exact hc
    · cases h
  · cases h

/-- A table word that is not 16 bits wide is never a request. -/
theorem encode_of_decodeTableWord {nbits w : Nat} {i : Instr} (hn : nbits ≠ 16)
    (h : decodeTableWord nbits w = some i) : ∃ c, encode i = some c ∧ ∀ v, c ≠ .req v := by
  unfold decodeTableWord at h
  split at h
  · obtain ⟨c, hc, he⟩ := List.exists_of_findSome?_eq_some h
    refine ⟨c, decodeExact_encode he, ?_⟩
    rintro v rfl
    unfold codesOfWidth at hc
    split at hc
    · contradiction
    · split at hc
      · simp at hc
      · split at hc <;> simp at hc
  · cases h

/-! ### Requests -/

/-- The instruction of a presented word is a SEND of its fields. -/
theorem exec_decodeRequest (w : BitVec 16) (s : State) :
    exec (decodeRequest w) s = sendRequest (splitRequest w) s := by
  unfold decodeRequest
  generalize splitRequest w = r
  obtain ⟨t, p, m, f⟩ := r
  cases p <;> rfl

theorem selectRequest_eq (s : State) : selectRequest s = .run (decodeRequest s.ports.req) := rfl

/-! ### The step -/

/-- Everything a step from `s` to `s'` can be; `s.clearEvents` is `s` with the one-step outputs ended. -/
inductive StepCase (s s' : State) : Prop where
  /-- The reset event. -/
  | reset (hr : s.ports.rst = true) (h : s' = s.clearEvents.resetBlock.advance)
  /-- The sink answers success after the train. -/
  | commit (hr : s.ports.rst = false) (hb : s.phase = .busy) (ha : s.answered = true) (hk : trainLen ≤ s.k)
      (ho : s.ports.txOk = true) (h : s' = s.clearEvents.commitSend.advance)
  /-- The sink answers failure after the train. -/
  | fail (hr : s.ports.rst = false) (hb : s.phase = .busy) (ha : s.answered = true) (hk : trainLen ≤ s.k)
      (ho : s.ports.txOk = false) (h : s' = (s.clearEvents.raiseOutcome .txFailed).advance)
  /-- A tick, in either phase. -/
  | tick (hr : s.ports.rst = false) (ha : s.phase = .busy → s.answered = false) (ht : s.ports.tick = true)
      (h : s' = s.clearEvents.tickTimer.advance)
  /-- A request is rejected. -/
  | reject (hr : s.ports.rst = false) (hp : s.phase = .ready) (hv : s.ports.reqValid = true)
      (hg : s.guardNow = false) (h : s' = (s.clearEvents.raiseOutcome .rateLimited).advance)
  /-- A request is accepted. -/
  | accept (hr : s.ports.rst = false) (hp : s.phase = .ready) (hv : s.ports.reqValid = true)
      (hg : s.guardNow = true) (f : Frame)
      (hf : frameOf (normalizeRequest (splitRequest s.ports.req) s.st) = some f)
      (h : s' = (s.clearEvents.startTrain (normalizeRequest (splitRequest s.ports.req) s.st) f).callSink.advance)
  /-- Nothing is taken: an idle step, or a request while BUSY. -/
  | idle (hr : s.ports.rst = false) (ht : s.ports.tick = false) (hv : s.phase = .ready → s.ports.reqValid = false)
      (h : s' = s.clearEvents.advance)
  /-- A word on the evaluation port, a pure row. -/
  | probeSub (hr : s.ports.rst = false) (hv : s.ports.reqValid = false) (ht : s.ports.tick = false)
      (hq : s.ports.probe ≠ none) (v : SubResult) (h : s' = (s.clearEvents.setSub v).advance)
  /-- A word on the evaluation port, an outcome code. -/
  | probeOutcome (hr : s.ports.rst = false) (hv : s.ports.reqValid = false) (ht : s.ports.tick = false)
      (hq : s.ports.probe ≠ none) (x : Result)
      (h : s' = ({ s.clearEvents with out := { s.clearEvents.out with res := some x } } : State).advance)

/-- The last part of a step: an operation that answers `t` makes the step answer `t.advance`. -/
theorem step_of_run {i : Instr} (hs : s.select = .run i) (h : step s = .next s') :
    ∃ t, exec i s.clearEvents = .next t ∧ s' = t.advance := by
  unfold step at h
  rw [hs] at h
  dsimp only at h
  split at h
  · next t ht => cases h; exact ⟨t, ht, rfl⟩
  · cases h
  · cases h

theorem step_of_exec {i : Instr} {t : State} (hs : s.select = .run i) (h : exec i s.clearEvents = .next t) :
    step s = .next t.advance := by
  unfold step; rw [hs]; dsimp only; rw [h]

theorem step_of_exec_fault {i : Instr} {f : Fault} (hs : s.select = .run i) (h : exec i s.clearEvents = .fault f) :
    step s = .fault f := by
  unfold step; rw [hs]; dsimp only; rw [h]

theorem step_of_exec_refused {i : Instr} {x : Refusal} (hs : s.select = .run i)
    (h : exec i s.clearEvents = .refused x) : step s = .refused x := by
  unfold step; rw [hs]; dsimp only; rw [h]

theorem step_of_idle (hs : s.select = .idle) : step s = .next s.clearEvents.advance := by
  unfold step; rw [hs]

theorem step_of_reject {e : Reject} (hs : s.select = .reject e) : step s = .refused (.undecodable e) := by
  unfold step; rw [hs]

/-- A presented request in either phase. -/
theorem stepCase_of_request (hr : s.ports.rst = false) (hv : s.ports.reqValid = true)
    (hb : s.phase = .busy → s.ports.tick = false) (hs : s.select = selectRequest s) (h : step s = .next s') :
    StepCase s s' := by
  rw [selectRequest_eq] at hs
  obtain ⟨t, he, rfl⟩ := step_of_run hs h
  rw [exec_decodeRequest] at he
  cases hp : s.phase
  · cases hg : s.guardNow
    · rw [sendRequest_rejected _ (s := s.clearEvents) hp hg] at he
      cases he
      exact .reject hr hp hv hg rfl
    · rw [sendRequest_accepted _ (s := s.clearEvents) hp hg] at he
      obtain ⟨f, hf, ha⟩ := acceptRequest_eq (splitRequest s.ports.req) s.clearEvents
      rw [ha] at he
      cases he
      exact .accept hr hp hv hg f hf rfl
  · rw [sendRequest_busy _ (s := s.clearEvents) hp] at he
    cases he
    exact .idle hr (hb hp) (by simp [hp]) rfl

/-- A word on the evaluation port, or nothing. -/
theorem stepCase_of_probe (hr : s.ports.rst = false) (hv : s.ports.reqValid = false) (ht : s.ports.tick = false)
    (hs : s.select = selectProbe s) (h : step s = .next s') : StepCase s s' := by
  unfold selectProbe at hs
  split at hs
  · rw [step_of_idle hs] at h
    cases h
    exact .idle hr ht (fun _ => hv) rfl
  · next nbits w hq =>
    have hq' : s.ports.probe ≠ none := by simp [hq]
    split at hs
    · next i hi =>
      split at hi
      · cases hi
      · next hn =>
        obtain ⟨c, hc, hreq⟩ := encode_of_decodeTableWord hn hi
        obtain ⟨t, he, rfl⟩ := step_of_run hs h
        rcases exec_of_encode hc s.clearEvents with ⟨⟨w, hw⟩, _⟩ | ⟨v, hx⟩ | ⟨x, hx⟩
        · exact absurd hw (hreq w)
        · rw [hx] at he; cases he
          exact .probeSub hr hv ht hq' v rfl
        · rw [hx] at he; cases he
          exact .probeOutcome hr hv ht hq' x rfl
    · rw [step_of_reject hs] at h
      cases h

/-- Everything a step can do when it answers a next state. -/
theorem step_cases (h : step s = .next s') : StepCase s s' := by
  cases hr : s.ports.rst
  case true =>
    obtain ⟨t, he, rfl⟩ := step_of_run (i := .reset) (by simp [State.select, hr]) h
    cases he
    exact .reset hr rfl
  case false =>
    cases hp : s.phase
    case ready =>
      cases hv : s.ports.reqValid
      case true => exact stepCase_of_request hr hv (by simp [hp]) (by simp [State.select, hr, hp, hv]) h
      case false =>
        cases ht : s.ports.tick
        case true =>
          obtain ⟨t, he, rfl⟩ := step_of_run (i := .tick) (by simp [State.select, hr, hp, hv, ht]) h
          cases he
          exact .tick hr (by simp [hp]) ht rfl
        case false => exact stepCase_of_probe hr hv ht (by simp [State.select, hr, hp, hv, ht]) h
    case busy =>
      cases ha : s.answered
      case true =>
        obtain ⟨t, he, rfl⟩ := step_of_run (i := .finish) (by simp [State.select, hr, hp, ha]) h
        rcases finishSend_cases (s := s.clearEvents) he with ⟨hw | hw, _⟩ | ⟨_, _, hk, ⟨ho, rfl⟩ | ⟨ho, rfl⟩⟩
        · simp [hp] at hw
        · simp [ha] at hw
        · exact .commit hr hp ha hk ho rfl
        · exact .fail hr hp ha hk ho rfl
      case false =>
        cases ht : s.ports.tick
        case true =>
          obtain ⟨t, he, rfl⟩ := step_of_run (i := .tick) (by simp [State.select, hr, hp, ha, ht]) h
          cases he
          exact .tick hr (fun _ => ha) ht rfl
        case false =>
          cases hv : s.ports.reqValid
          case true => exact stepCase_of_request hr hv (fun _ => ht) (by simp [State.select, hr, hp, ha, ht, hv]) h
          case false => exact stepCase_of_probe hr hv ht (by simp [State.select, hr, hp, ha, ht, hv]) h

/-! ### Runs of steps -/

theorem run_zero (s : State) : Sys2Proof.core.run 0 s = .next s := rfl

theorem run_succ (n : Nat) (h : step s = .next s') : Sys2Proof.core.run (n + 1) s = Sys2Proof.core.run n s' := by
  have h : Sys2Proof.core.step s = .next s' := h
  simp only [Host.Core.run, h]

theorem run_succ_fault {f : Fault} (n : Nat) (h : step s = .fault f) :
    Sys2Proof.core.run (n + 1) s = .fault f := by
  have h : Sys2Proof.core.step s = .fault f := h
  simp only [Host.Core.run, h]

theorem run_succ_refused {x : Refusal} (n : Nat) (h : step s = .refused x) :
    Sys2Proof.core.run (n + 1) s = .refused x := by
  have h : Sys2Proof.core.step s = .refused x := h
  simp only [Host.Core.run, h]

end Sys2Proof.Machine
end

