-- ==== Sys2Proof/Machine/Run.lean ====
section
/-! DEFINITION. When a run is over (spec/70_reset_and_hazards.md R262): the requests of a run that have produced no
outcome yet. The account is kept beside the run and not in State, because the block remembers no request (R31, R188). -/

namespace Sys2Proof.Machine

/-- The requests presented in a run that have produced no outcome. -/
structure Account where
  /-- Presented and not taken (R188), or taken and abandoned by a reset (R251). -/
  waiting  : List (BitVec 16)
  /-- Accepted, the sink's answer still to come. -/
  inFlight : Option (BitVec 16)
  deriving DecidableEq, Repr, Inhabited

/-- No request has been presented: the account of a run that begins in READY. -/
def Account.empty : Account := { waiting := [], inFlight := none }

/-- A presented request that is not taken waits. A request that is held or presented again (R224) is the same one,
known by its word (log 21). -/
def Account.leave (a : Account) (p : Ports) : Account :=
  if p.reqValid && !a.waiting.contains p.req then { a with waiting := p.req :: a.waiting } else a

/-- The account after a step from `s` to `s'`. A request is taken in READY (R188); its outcome comes in that step when
it is rejected (R183), and with the step that leaves BUSY when it is accepted (R185, R186). A reset gives no outcome,
to the SEND in flight neither (R250, R251). -/
def Account.after (a : Account) (s s' : State) : Account :=
  if s.ports.rst then
    Account.leave { waiting := a.inFlight.toList ++ a.waiting, inFlight := none } s.ports
  else match s.phase with
    | .ready =>
      if s.ports.reqValid then
        { waiting := a.waiting.erase s.ports.req, inFlight := if s'.phase = .busy then some s.ports.req else none }
      else a
    | .busy => { a.leave s.ports with inFlight := if s'.phase = .busy then a.inFlight else none }

/-- The step from `s` to `s'` gives a taken request its outcome (R211). -/
def settles (s s' : State) : Bool :=
  !s.ports.rst && s'.phase == .ready && (s.phase == .busy || s.ports.reqValid)

/-- `n` steps with the account of their requests. -/
def runAccount : Nat → State → Account → Host.Outcome (State × Account) Fault Refusal
  | 0, s, a => .next (s, a)
  | n + 1, s, a =>
    match step s with
    | .next s' => runAccount n s' (a.after s s')
    | .fault f => .fault f
    | .refused r => .refused r

/-- A run is over (R262): every presented request has produced its outcome, none is presented now or later, and the
block is READY. A BUSY state is not final. -/
def State.over (s : State) (a : Account) : Bool :=
  s.phase == .ready && a.inFlight.isNone && a.waiting.isEmpty && !s.ports.reqValid && s.later.all fun p => !p.reqValid

end Sys2Proof.Machine
end

