-- ==== Sys2Proof/Laws/Run.lean ====
section
/-! SUPPORT. What the account of a run's requests says: it follows the outcomes, and a request keeps its place in it
until it is taken. -/

namespace Sys2Proof.Machine

variable {s s' : State} {a : Account} {w : BitVec 16}

@[simp] theorem Account.leave_inFlight (a : Account) (p : Ports) : (a.leave p).inFlight = a.inFlight := by
  unfold Account.leave; split <;> rfl

theorem Account.mem_leave (a : Account) (p : Ports) :
    w ∈ (a.leave p).waiting ↔ w ∈ a.waiting ∨ (p.reqValid = true ∧ w = p.req) := by
  unfold Account.leave
  cases p.reqValid
  · simp
  · by_cases h : p.req ∈ a.waiting
    · simp only [List.contains_eq_mem, h, decide_true, Bool.not_true, Bool.and_false]
      exact ⟨.inl, fun hw => hw.elim id fun ⟨_, e⟩ => e ▸ h⟩
    · simp [h, or_comm]

/-- After a reset the block is READY. -/
theorem phase_of_reset (h : step s = .next s') (hr : s.ports.rst = true) : s'.phase = .ready := by
  obtain ⟨t, he, rfl⟩ := step_of_run (i := .reset) (by simp [State.select, hr]) h
  cases he
  simp

/-- READY is left only with a request (R187). -/
theorem phase_of_no_request (h : step s = .next s') (hp : s.phase = .ready) (hv : s.ports.reqValid = false) :
    s'.phase = .ready := by
  cases step_cases h <;> simp_all

/-- A request presented in READY is taken: the step rejects it or accepts it (R182, R183, R188). -/
theorem step_takes_request (h : step s = .next s') (hr : s.ports.rst = false) (hp : s.phase = .ready)
    (hv : s.ports.reqValid = true) :
    s' = (s.clearEvents.raiseOutcome .rateLimited).advance
    ∨ ∃ f, s' = (s.clearEvents.startTrain (normalizeRequest (splitRequest s.ports.req) s.st) f).callSink.advance := by
  obtain ⟨t, he, rfl⟩ := step_of_run (i := decodeRequest s.ports.req)
    (by simp [State.select, hr, hp, hv, selectRequest_eq]) h
  rw [exec_decodeRequest] at he
  cases hg : s.guardNow
  · rw [sendRequest_rejected _ (s := s.clearEvents) hp hg] at he
    cases he
    exact .inl rfl
  · obtain ⟨f, _, ha⟩ := acceptRequest_eq (splitRequest s.ports.req) s.clearEvents
    rw [sendRequest_accepted _ (s := s.clearEvents) hp hg, ha] at he
    cases he
    exact .inr ⟨f, rfl⟩

/-- With nothing on the evaluation port, a step settles a request exactly when it drives an outcome (R211, R220). -/
theorem settles_iff_outcome (h : step s = .next s') (hq : s.ports.probe = none) :
    settles s s' = true ↔ s'.out.res.isSome = true := by
  by_cases ht : s.ports.rst = false ∧ s.phase = .ready ∧ s.ports.reqValid = true
  · obtain ⟨hr, hp, hv⟩ := ht
    rcases step_takes_request h hr hp hv with rfl | ⟨f, rfl⟩ <;> simp [settles, hr, hv, Outputs.none]
  · have hv : s.ports.rst = false → s.phase = .ready → s.ports.reqValid = false := fun hr hp => by
      cases hv : s.ports.reqValid
      · rfl
      · exact absurd ⟨hr, hp, hv⟩ ht
    cases step_cases h with
    | reset hr e => subst e; simp [settles, hr, Outputs.none]
    | commit hr hb ha hk ho e => subst e; simp [settles, hr, hb]
    | fail hr hb ha hk ho e => subst e; simp [settles, hr, hb]
    | reject hr hp hv' hg e => exact absurd ⟨hr, hp, hv'⟩ ht
    | accept hr hp hv' hg f hf e => exact absurd ⟨hr, hp, hv'⟩ ht
    | tick hr ha ht e => subst e; cases hp : s.phase <;> simp [settles, hr, hp, hv hr, Outputs.none]
    | idle hr ht hv' e => subst e; cases hp : s.phase <;> simp [settles, hr, hp, hv hr, Outputs.none]
    | probeSub hr hv' ht hq' v e => exact absurd hq hq'
    | probeOutcome hr hv' ht hq' x e => exact absurd hq hq'

/-- The account holds a request in flight exactly while the block is BUSY. -/
theorem inFlight_iff_busy (h : step s = .next s') (ha : a.inFlight.isSome = true ↔ s.phase = .busy) :
    (a.after s s').inFlight.isSome = true ↔ s'.phase = .busy := by
  cases hr : s.ports.rst
  · cases hp : s.phase
    · cases hv : s.ports.reqValid
      · simp [Account.after, hr, hp, hv, phase_of_no_request h hp hv, ha]
      · cases hp' : s'.phase <;> simp [Account.after, hr, hp, hv, hp']
    · cases hp' : s'.phase <;> simp [Account.after, hr, hp, hp', ha.2 hp]
  · simp [Account.after, hr, phase_of_reset h hr]

/-- A request without an outcome goes on without one until it is presented again and taken. -/
theorem waiting_kept (hw : w ∈ a.waiting)
    (ht : ¬ (s.ports.rst = false ∧ s.phase = .ready ∧ s.ports.reqValid = true ∧ s.ports.req = w)) :
    w ∈ (a.after s s').waiting := by
  unfold Account.after
  cases hr : s.ports.rst
  · cases hp : s.phase
    · cases hv : s.ports.reqValid
      · simpa using hw
      · have hne : w ≠ s.ports.req := fun e => ht ⟨hr, hp, hv, e.symm⟩
        simpa using (List.mem_erase_of_ne hne).2 hw
    · simp [Account.mem_leave, hw]
  · simp [Account.mem_leave, hw]

/-- A request presented in BUSY is not taken and waits (R188). -/
theorem waiting_of_busy (hp : s.phase = .busy) (hv : s.ports.reqValid = true) :
    s.ports.req ∈ (a.after s s').waiting := by
  unfold Account.after
  cases s.ports.rst <;> simp [hp, hv, Account.mem_leave]

/-- The request whose SEND a reset abandons has no outcome and waits (R251). -/
theorem waiting_of_abandoned (hr : s.ports.rst = true) (hf : a.inFlight = some w) :
    w ∈ (a.after s s').waiting := by
  simp [Account.after, hr, hf, Account.mem_leave]

/-- R262 word for word, with the requests still to be presented. -/
theorem over_iff (s : State) (a : Account) :
    s.over a = true ↔ s.phase = .ready ∧ a = Account.empty ∧ s.ports.reqValid = false
      ∧ ∀ p ∈ s.later, p.reqValid = false := by
  obtain ⟨ws, f⟩ := a
  simp [State.over, Account.empty]
  tauto

/-- The account is kept beside the run and changes nothing of it. -/
theorem run_of_runAccount {n : Nat} {t : State} {b : Account} (h : runAccount n s a = .next (t, b)) :
    Sys2Proof.core.run n s = .next t := by
  induction n generalizing s a with
  | zero => cases h; rfl
  | succ n ih =>
    unfold runAccount at h
    cases hs : step s with
    | next s' => rw [hs] at h; rw [run_succ n hs]; exact ih h
    | fault f => rw [hs] at h; cases h
    | refused x => rw [hs] at h; cases h

end Sys2Proof.Machine
end

