-- ==== Sys2Proof/Machine/Line.lean ====
section
/-! DEFINITION. The line form of requests and the two directives (spec/30_encoding.md R93), as abstract text, and
what a list of lines does at Level A. -/

namespace Sys2Proof.Machine

/-- `<mode>`: a name, `?5` to `?7`, or a bare `?` (R93). -/
inductive ModeWord where
  | named (m : Mode)
  | unknown (code : BitVec 3)
  | bare
  deriving DecidableEq, Repr, Inhabited

/-- `<fan>`: a name, `?4` to `?15`, or a bare `?` (R93). -/
inductive FanWord where
  | named (f : Fan)
  | unknown (code : BitVec 4)
  | bare
  deriving DecidableEq, Repr, Inhabited

/-- `@<now> SEND <on|off> <temp> <mode> <fan> sink=<ok|fail> @<now_done>`; the last two may be omitted (R93). -/
structure Line where
  now  : Time
  on   : Bool
  temp : BitVec 8
  mode : ModeWord
  fan  : FanWord
  sink : Option Bool
  done : Option Time
  deriving DecidableEq, Repr, Inhabited

/-- The token of a mode word: a bare `?` is the highest unrecognized code (R93). -/
def ModeWord.token : ModeWord → BitVec 3
  | .named m => modeCode m
  | .unknown code => code
  | .bare => 7

/-- The token of a fan word (R93). -/
def FanWord.token : FanWord → BitVec 4
  | .named f => (fanCode f).setWidth 4
  | .unknown code => code
  | .bare => 15

/-- The request a line presents (R93). -/
def Line.request (l : Line) : Request :=
  { temperature := l.temp, power := l.on, modeTok := l.mode.token, fanTok := l.fan.token }

/-- The two directives and the lines of a program (R93). -/
inductive Directive where
  | send (l : Line)
  | reset
  | paramU (u : Nat)
  | paramCarrierHz (hz : Nat)
  | paramRst (c : Command)
  | paramRstLastTx (t : Time)
  deriving DecidableEq, Repr, Inhabited

/-- The parameters and the two persistent registers while a list of lines runs. -/
structure LineState where
  cfg    : Params
  st     : Command
  lastTx : Time
  deriving DecidableEq, Repr, Inhabited

/-- A line's SEND: an omitted answer means a rejection or a sink that fails, an omitted `@<now_done>` the time of
the request; neither is read where it may be omitted (R93). -/
def Line.run (l : Line) (s : LineState) : Option Transaction :=
  sendA s.cfg s.st s.lastTx l.request l.now (l.sink.getD false) (l.done.getD l.now)

/-- One directive. DESIGN CHOICE: R93 has PARAM fix a parameter "for the program" and does not say when an `RST_*`
value acts; here it changes the parameters from its line on, and `st` and `lastTx` take it at the next RESET (log 20). -/
def Directive.run (d : Directive) (s : LineState) : Option LineState :=
  match d with
  | .send l => (l.run s).map fun x => { s with st := x.st, lastTx := x.lastTx }
  | .reset => some { s with st := s.cfg.rst, lastTx := s.cfg.rstLastTx }
  | .paramU u => some { s with cfg := { s.cfg with u := u } }
  | .paramCarrierHz hz => some { s with cfg := { s.cfg with carrierHz := hz } }
  | .paramRst c => some { s with cfg := { s.cfg with rst := c } }
  | .paramRstLastTx t => some { s with cfg := { s.cfg with rstLastTx := t } }

/-- A list of directives, in order. -/
def runLines : List Directive → LineState → Option LineState
  | [], s => some s
  | d :: ds, s => match d.run s with
    | some s' => runLines ds s'
    | none => none

end Sys2Proof.Machine
end

