-- ==== Sys2Proof/Tests/Slice0.lean ====
section
/-! SUPPORT. The model's own tests: ill-formed terms, decoding of words written out from the spec, one step of each
instruction against the vectors of spec/95_test_vectors.md, and a state that meets the hypotheses of each statement. -/

namespace Sys2Proof.Tests
open Sys2Proof Sys2Proof.Machine

/-! ## Helpers -/

/-- The next state of an operation, if it answers one. -/
def after (i : Instr) (s : State) : Option State :=
  match exec i s with
  | .next t => some t
  | _ => none

/-- The fault of an operation, if it stops with one. -/
def faultOf (i : Instr) (s : State) : Option Fault :=
  match exec i s with
  | .fault f => some f
  | _ => none

/-- The next state of a step, if it answers one. -/
def afterStep (s : State) : Option State :=
  match step s with
  | .next t => some t
  | _ => none

/-- The value an operation puts on `sub`. -/
def value (i : Instr) (s : State) : Option SubResult := (after i s).map (·.sub)

/-- Defaults with `U` = 2, as in V26; nothing presented, the time source at 0. -/
def base : State := State.resetWith { defaultParams with u := 2 }

/-- `base` with a stored command and a last transmission time. -/
def stored (st : Command) (lastTx : Time) : State := { base with st := st, lastTx := lastTx }

/-- `s` with the time source at `now`. -/
def atTime (s : State) (now : Time) : State := { s with ports := Ports.idle now }

/-- The stored command of V11: mode AUTO, fan HIGH. -/
def v11 : State := stored { power := true, temp := 20, mode := .auto, fan := .high } 0

/-- (on, 24, COOL, AUTO), Scenario A. -/
def cmdA : Command := { power := true, temp := 24, mode := .cool, fan := .auto }

/-- Scenario A's frame (V1). -/
def frameA : Frame := { byte0 := 0xB2, byte1 := 0xBF, byte2 := 0x40 }

/-- BUSY with Scenario A's train at slot `k`, `t` ticks left in it. -/
def busyAt (k t : Nat) : State := { base with phase := .busy, cLat := cmdA, fLat := frameA, k := k, t := t }

/-- The train is finished and the sink answers `ok` at time `now`. -/
def answered (ok : Bool) (now : Time) : State :=
  { busyAt 199 0 with ports := { Ports.idle now with txDone := true, txOk := ok } }

/-- A request word presented at time `now`. -/
def presented (s : State) (w : BitVec 16) (now : Time) : State :=
  { s with ports := { Ports.idle now with reqValid := true, req := w } }

/-! ## Ill-formed terms, one for each check -/

theorem test_ill_formed_frame_fan : WellFormed (.frame 0b1111 0b1111 0b0000 0b0000) = false := by decide
theorem test_ill_formed_frame_mode : WellFormed (.frame 0b1011 0b1111 0b0000 0b1111) = false := by decide
theorem test_ill_formed_frame_state : WellFormed (.frame 0b1011 0b0000 0b0000 0b0000) = false := by decide
theorem test_ill_formed_frame_temp_1111 : WellFormed (.frame 0b1011 0b1111 0b1111 0b0000) = false := by decide
theorem test_ill_formed_frame_on_with_sentinel : WellFormed (.frame 0b1011 0b1111 0b1110 0b0000) = false := by decide
theorem test_ill_formed_frame_off_with_temperature :
    WellFormed (.frame 0b1011 0b1011 0b0100 0b0000) = false := by decide
theorem test_ill_formed_maptemp : WellFormed (.maptemp 16) = false ∧ WellFormed (.maptemp 31) = false := by decide
theorem test_ill_formed_tempnib : WellFormed (.tempnib true 16) = false ∧ WellFormed (.tempnib false 16) = true := by
  decide
theorem test_ill_formed_frameBuild : WellFormed (.frameBuild { cmdA with temp := 31 }) = false := by decide
theorem test_ill_formed_start : WellFormed (.start { cmdA with temp := 0 }) = false := by decide
theorem test_ill_formed_dur : WellFormed (.dur frameA 199) = false ∧ WellFormed (.dur frameA 198) = true := by decide
theorem test_ill_formed_params_u : Params.wf { defaultParams with u := 0 } = false := by decide
theorem test_ill_formed_params_carrier : Params.wf { defaultParams with carrierHz := 0 } = false := by decide
theorem test_ill_formed_params_rst :
    Params.wf { defaultParams with rst := { cmdA with temp := 31 } } = false := by decide
theorem test_well_formed_defaults : Params.wf defaultParams = true := by decide

/-! ## Decoding: words written out from R81 to R85, R88 and opcode_table.json -/

/-- R81: `tttttttt p mmm ffff`; its four examples. -/
theorem test_decode_request :
    decode (.req 0b0001100010000000) = .ok (.sendOn 24 0 0)
    ∧ decode (.req 0b0001100000000000) = .ok (.sendOff 24 0 0)
    ∧ decode (.req 0b0001111011000001) = .ok (.sendOn 30 4 1)
    ∧ decode (.req 0b1111110111111111) = .ok (.sendOn (-3) 7 15) := by decide

/-- R82, R22: the mode token in bits 6:4, whatever the other bits. -/
theorem test_decode_mode_token :
    decode (.reqMode 0b0001100010000000) = .ok .modeCool
    ∧ decode (.reqMode 0b0000000000010000) = .ok .modeHeat
    ∧ decode (.reqMode 0b0000000000100000) = .ok .modeAuto
    ∧ decode (.reqMode 0b0000000000110000) = .ok .modeFan
    ∧ decode (.reqMode 0b0000000001000000) = .ok .modeDry
    ∧ decode (.reqMode 0b0000000001010000) = .ok .modeKeep5
    ∧ decode (.reqMode 0b0000000001100000) = .ok .modeKeep6
    ∧ decode (.reqMode 0b1111111111111111) = .ok .modeKeep7 := by decide

/-- R83, R22: the fan token in bits 3:0. -/
theorem test_decode_fan_token :
    decode (.reqFan 0b0001100010000000) = .ok .fantokAuto
    ∧ decode (.reqFan 0b0000000000000001) = .ok .fantokLow
    ∧ decode (.reqFan 0b0000000000000010) = .ok .fantokMedium
    ∧ decode (.reqFan 0b0000000000000011) = .ok .fantokHigh
    ∧ decode (.reqFan 0b0000000000000110) = .ok (.fantokKeep4to7 2)
    ∧ decode (.reqFan 0b0000000000001101) = .ok (.fantokKeep8to15 5) := by decide

/-- R84: `10110010 ffff ssss tttt mmmm`; a wrong magic byte is no frame. -/
theorem test_decode_frame :
    decode (.frame 0b101100101011111101000000) = .ok (.frame 0b1011 0b1111 0b0100 0b0000)
    ∧ decode (.frame 0b101100101011101111100000) = .ok (.frame 0b1011 0b1011 0b1110 0b0000)
    ∧ decode (.frame 0b101100111011111101000000) = .error .wrongMagic := by decide

/-- R53, bits 15:12. -/
theorem test_decode_fan_nibble :
    decode (.frameFan 0b101100101011111101000000) = .ok .fannibAuto
    ∧ decode (.frameFan 0b000000001001000000000000) = .ok .fannibLow
    ∧ decode (.frameFan 0b000000000101000000000000) = .ok .fannibMedium
    ∧ decode (.frameFan 0b000000000011000000000000) = .ok .fannibHigh
    ∧ decode (.frameFan 0b000000001111000000000000) = .error .fanNibbleNeverGenerated := by decide

/-- R133, bits 11:8. -/
theorem test_decode_state_nibble :
    decode (.frameState 0b101100101011111101000000) = .ok .statenibOn
    ∧ decode (.frameState 0b101100101011101111100000) = .ok .statenibOff
    ∧ decode (.frameState 0b000000000000000000000000) = .error .stateNibbleNeverGenerated := by decide

/-- R51, bits 7:4, and the sentinel of R134. -/
theorem test_decode_temp_nibble :
    decode (.frameTemp 0b000000000000000000000000) = .ok .tempnib17
    ∧ decode (.frameTemp 0b000000000000000000010000) = .ok .tempnib18
    ∧ decode (.frameTemp 0b000000000000000000110000) = .ok .tempnib19
    ∧ decode (.frameTemp 0b000000000000000000100000) = .ok .tempnib20
    ∧ decode (.frameTemp 0b000000000000000001100000) = .ok .tempnib21
    ∧ decode (.frameTemp 0b000000000000000001110000) = .ok .tempnib22
    ∧ decode (.frameTemp 0b000000000000000001010000) = .ok .tempnib23
    ∧ decode (.frameTemp 0b000000000000000001000000) = .ok .tempnib24
    ∧ decode (.frameTemp 0b000000000000000011000000) = .ok .tempnib25
    ∧ decode (.frameTemp 0b000000000000000011010000) = .ok .tempnib26
    ∧ decode (.frameTemp 0b000000000000000010010000) = .ok .tempnib27
    ∧ decode (.frameTemp 0b000000000000000010000000) = .ok .tempnib28
    ∧ decode (.frameTemp 0b000000000000000010100000) = .ok .tempnib29
    ∧ decode (.frameTemp 0b000000000000000010110000) = .ok .tempnib30
    ∧ decode (.frameTemp 0b000000000000000011100000) = .ok .tempnibOff
    ∧ decode (.frameTemp 0b000000000000000011110000) = .error .tempNibbleNeverGenerated := by decide

/-- R52, bits 3:0. -/
theorem test_decode_mode_nibble :
    decode (.frameMode 0b101100101011111101000000) = .ok .modenibCool
    ∧ decode (.frameMode 0b000000000000000000001100) = .ok .modenibHeat
    ∧ decode (.frameMode 0b000000000000000000001000) = .ok .modenibAuto
    ∧ decode (.frameMode 0b000000000000000000000100) = .ok .modenibFan
    ∧ decode (.frameMode 0b000000000000000000000010) = .ok .modenibDry
    ∧ decode (.frameMode 0b000000000000000000000001) = .error .modeNibbleNeverGenerated := by decide

/-- R85. -/
theorem test_decode_symbol :
    decode (.symbol (some 8) (some 8)) = .ok .symHdr ∧ decode (.symbol (some 1) (some 1)) = .ok .symBit0
    ∧ decode (.symbol (some 1) (some 3)) = .ok .symBit1 ∧ decode (.symbol (some 1) none) = .ok .symStop
    ∧ decode (.symbol none (some 8)) = .ok .symGap
    ∧ decode (.symbol (some 3) (some 1)) = .error .noSuchSymbol := by decide

/-- R88. -/
theorem test_decode_outcome :
    decode (.res 0b00) = .ok .outcomeOk ∧ decode (.res 0b01) = .ok .outcomeRateLimited
    ∧ decode (.res 0b10) = .ok .outcomeTxFailed ∧ decode (.res 0b11) = .error .outcomeCodeNeverProduced := by decide

/-- R90: a 16-bit table word is a request; a nibble word of 24 bits is its row; what no format accepts is nothing. -/
theorem test_decodeTableWord :
    decodeTableWord 16 0x1880 = some (.sendOn 24 0 0) ∧ decodeTableWord 16 0x0050 = some (.sendOff 0 5 0)
    ∧ decodeTableWord 24 0xB2BF40 = some (.frame 0xB 0xF 0x4 0x0)
    ∧ decodeTableWord 24 0x00B000 = some .fannibAuto ∧ decodeTableWord 24 0x0000E0 = some .tempnibOff
    ∧ decodeTableWord 24 0x00000C = some .modenibHeat ∧ decodeTableWord 24 0x000F00 = some .statenibOn
    ∧ decodeTableWord 2 2 = some .outcomeTxFailed ∧ decodeTableWord 8 1 = some .outcomeRateLimited
    ∧ decodeTableWord 2 3 = none ∧ decodeTableWord 8 4 = none ∧ decodeTableWord 24 0xFFFFFF = none := by decide

/-! ## Token rows, normalizer (V10, V11, V13, V3) -/

theorem test_mode_tokens :
    value .modeCool v11 = some (.mode .cool) ∧ value .modeHeat v11 = some (.mode .heat)
    ∧ value .modeAuto v11 = some (.mode .auto) ∧ value .modeFan v11 = some (.mode .fan)
    ∧ value .modeDry v11 = some (.mode .dry) ∧ value .modeKeep5 v11 = some (.mode .auto)
    ∧ value .modeKeep6 v11 = some (.mode .auto) ∧ value .modeKeep7 v11 = some (.mode .auto) := by decide

theorem test_fan_tokens :
    value .fantokAuto v11 = some (.fan .auto) ∧ value .fantokLow v11 = some (.fan .low)
    ∧ value .fantokMedium v11 = some (.fan .medium) ∧ value .fantokHigh v11 = some (.fan .high)
    ∧ value (.fantokKeep4to7 0) v11 = some (.fan .high) ∧ value (.fantokKeep4to7 3) v11 = some (.fan .high)
    ∧ value (.fantokKeep8to15 0) v11 = some (.fan .high) ∧ value (.fantokKeep8to15 7) v11 = some (.fan .high) := by
  decide

theorem test_clamp :
    value (.clamp (-128)) base = some (.temp 17) ∧ value (.clamp (-1)) base = some (.temp 17)
    ∧ value (.clamp 16) base = some (.temp 17) ∧ value (.clamp 17) base = some (.temp 17)
    ∧ value (.clamp 18) base = some (.temp 18) ∧ value (.clamp 29) base = some (.temp 29)
    ∧ value (.clamp 30) base = some (.temp 30) ∧ value (.clamp 31) base = some (.temp 30)
    ∧ value (.clamp 127) base = some (.temp 30) ∧ value (.clamp 100000) base = some (.temp 30) := by decide

theorem test_token_fallback :
    value (.tokenFallback 6 1) v11 = some (.tokens .auto .low)
    ∧ value (.tokenFallback 4 12) v11 = some (.tokens .dry .high)
    ∧ value (.tokenFallback 4 3) v11 = some (.tokens .dry .high)
    ∧ value (.tokenFallback 5 4) v11 = some (.tokens .auto .high) := by decide

/-- R110's example, Scenario C (V3), and the sign of 0xFF (V10). -/
theorem test_normalize :
    value (.normalize 0x1880) v11 = some (.command cmdA)
    ∧ value (.normalize 0x16F1) (stored { cmdA with mode := .heat } 0)
        = some (.command { power := true, temp := 22, mode := .heat, fan := .low })
    ∧ value (.normalize 0xFF00) v11 = some (.command { power := false, temp := 17, mode := .cool, fan := .auto })
    ∧ value (.normalize 0x637F) v11 = some (.command { power := false, temp := 30, mode := .auto, fan := .high }) := by
  decide

/-! ## Nibbles and frames (V1, V2, V12, V13) -/

theorem test_maptemp :
    value (.maptemp 17) base = some (.nibble 0x0) ∧ value (.maptemp 19) base = some (.nibble 0x3)
    ∧ value (.maptemp 20) base = some (.nibble 0x2) ∧ value (.maptemp 27) base = some (.nibble 0x9)
    ∧ value (.maptemp 28) base = some (.nibble 0x8) ∧ value (.maptemp 30) base = some (.nibble 0xB)
    ∧ faultOf (.maptemp 16) base = some .tableIndex ∧ faultOf (.maptemp 31) base = some .tableIndex := by decide

theorem test_mapmode :
    value (.mapmode .cool) base = some (.nibble 0x0) ∧ value (.mapmode .heat) base = some (.nibble 0xC)
    ∧ value (.mapmode .auto) base = some (.nibble 0x8) ∧ value (.mapmode .fan) base = some (.nibble 0x4)
    ∧ value (.mapmode .dry) base = some (.nibble 0x2) := by decide

theorem test_mapfan :
    value (.mapfan .auto) base = some (.nibble 0xB) ∧ value (.mapfan .low) base = some (.nibble 0x9)
    ∧ value (.mapfan .medium) base = some (.nibble 0x5) ∧ value (.mapfan .high) base = some (.nibble 0x3) := by decide

theorem test_mapstate :
    value (.mapstate true) base = some (.nibble 0xF) ∧ value (.mapstate false) base = some (.nibble 0xB) := by decide

theorem test_tempnib :
    value (.tempnib false 24) base = some (.nibble 0xE) ∧ value (.tempnib true 24) base = some (.nibble 0x4)
    ∧ value (.tempnib false 0) base = some (.nibble 0xE) ∧ faultOf (.tempnib true 16) base = some .tableIndex := by
  decide

theorem test_frame_build :
    value (.frameBuild cmdA) base = some (.frame frameA)
    ∧ value (.frameBuild { cmdA with power := false }) base
        = some (.frame { byte0 := 0xB2, byte1 := 0xBB, byte2 := 0xE0 })
    ∧ value (.frameBuild { power := true, temp := 30, mode := .dry, fan := .low }) base
        = some (.frame { byte0 := 0xB2, byte1 := 0x9F, byte2 := 0xB2 })
    ∧ value (.frameBuild { power := false, temp := 30, mode := .fan, fan := .medium }) base
        = some (.frame { byte0 := 0xB2, byte1 := 0x5B, byte2 := 0xE4 }) := by decide

/-- R84 and the decoder of R94. -/
theorem test_frame_word :
    value (.frame 0xB 0xF 0x4 0x0) base
        = some (.frameWord frameA (some { power := true, temp := some 24, mode := .cool, fan := .auto }))
    ∧ value (.frame 0x5 0xB 0xE 0x4) base
        = some (.frameWord { byte0 := 0xB2, byte1 := 0x5B, byte2 := 0xE4 }
            (some { power := false, temp := none, mode := .fan, fan := .medium }))
    ∧ value (.frame 0xB 0xB 0x4 0x0) base
        = some (.frameWord { byte0 := 0xB2, byte1 := 0xBB, byte2 := 0x40 } none) := by decide

theorem test_nibble_rows :
    value .fannibAuto base = some (.fieldNibble .fan 0xB) ∧ value .fannibLow base = some (.fieldNibble .fan 0x9)
    ∧ value .fannibMedium base = some (.fieldNibble .fan 0x5) ∧ value .fannibHigh base = some (.fieldNibble .fan 0x3)
    ∧ value .statenibOn base = some (.fieldNibble .state 0xF) ∧ value .statenibOff base = some (.fieldNibble .state 0xB)
    ∧ value .modenibCool base = some (.fieldNibble .mode 0x0) ∧ value .modenibHeat base = some (.fieldNibble .mode 0xC)
    ∧ value .modenibAuto base = some (.fieldNibble .mode 0x8) ∧ value .modenibFan base = some (.fieldNibble .mode 0x4)
    ∧ value .modenibDry base = some (.fieldNibble .mode 0x2) := by decide

theorem test_temperature_nibble_rows :
    value .tempnib17 base = some (.fieldNibble .temp 0x0) ∧ value .tempnib18 base = some (.fieldNibble .temp 0x1)
    ∧ value .tempnib19 base = some (.fieldNibble .temp 0x3) ∧ value .tempnib20 base = some (.fieldNibble .temp 0x2)
    ∧ value .tempnib21 base = some (.fieldNibble .temp 0x6) ∧ value .tempnib22 base = some (.fieldNibble .temp 0x7)
    ∧ value .tempnib23 base = some (.fieldNibble .temp 0x5) ∧ value .tempnib24 base = some (.fieldNibble .temp 0x4)
    ∧ value .tempnib25 base = some (.fieldNibble .temp 0xC) ∧ value .tempnib26 base = some (.fieldNibble .temp 0xD)
    ∧ value .tempnib27 base = some (.fieldNibble .temp 0x9) ∧ value .tempnib28 base = some (.fieldNibble .temp 0x8)
    ∧ value .tempnib29 base = some (.fieldNibble .temp 0xA) ∧ value .tempnib30 base = some (.fieldNibble .temp 0xB)
    ∧ value .tempnibOff base = some (.fieldNibble .temp 0xE) := by decide

/-! ## Symbols and trains (V14, V20, V23) -/

theorem test_symbols :
    value .symHdr base = some (.symbol (some 8) (some 8)) ∧ value .symBit0 base = some (.symbol (some 1) (some 1))
    ∧ value .symBit1 base = some (.symbol (some 1) (some 3)) ∧ value .symStop base = some (.symbol (some 1) none)
    ∧ value .symGap base = some (.symbol none (some 8)) := by decide

theorem test_sym : value (.sym true) base = some (.durations [1, 3]) ∧ value (.sym false) base = some (.durations [1, 1]) := by
  decide

theorem test_encbyte :
    value (.encbyte 0x80) base = some (.durations [1, 3, 1, 1, 1, 1, 1, 1, 1, 1, 1, 1, 1, 1, 1, 1])
    ∧ value (.encbyte 0x01) base = some (.durations [1, 1, 1, 1, 1, 1, 1, 1, 1, 1, 1, 1, 1, 1, 1, 3])
    ∧ value (.encbyte 0xB2) base = some (.durations [1, 3, 1, 1, 1, 3, 1, 3, 1, 1, 1, 1, 1, 3, 1, 1]) := by decide

theorem test_encpair :
    value (.encpair 0xB2) base = some (.durations
      [1, 3, 1, 1, 1, 3, 1, 3, 1, 1, 1, 1, 1, 3, 1, 1, 1, 1, 1, 3, 1, 1, 1, 1, 1, 3, 1, 3, 1, 1, 1, 3]) := by decide

/-- V20's 99 durations of one repetition. -/
def repA : List Nat :=
  [8, 8] ++ [1, 3, 1, 1, 1, 3, 1, 3, 1, 1, 1, 1, 1, 3, 1, 1] ++ [1, 1, 1, 3, 1, 1, 1, 1, 1, 3, 1, 3, 1, 1, 1, 3]
    ++ [1, 3, 1, 1, 1, 3, 1, 3, 1, 3, 1, 3, 1, 3, 1, 3] ++ [1, 1, 1, 3, 1, 1, 1, 1, 1, 1, 1, 1, 1, 1, 1, 1]
    ++ [1, 1, 1, 3, 1, 1, 1, 1, 1, 1, 1, 1, 1, 1, 1, 1] ++ [1, 3, 1, 1, 1, 3, 1, 3, 1, 3, 1, 3, 1, 3, 1, 3] ++ [1]

theorem test_rep : value (.rep frameA) base = some (.durations repA) := rfl
theorem test_train : value (.train frameA) base = some (.durations (repA ++ [8] ++ repA)) := by decide +kernel

theorem test_dur :
    value (.dur frameA 0) base = some (.duration 8) ∧ value (.dur frameA 3) base = some (.duration 3)
    ∧ value (.dur frameA 5) base = some (.duration 1) ∧ value (.dur frameA 19) base = some (.duration 1)
    ∧ value (.dur frameA 33) base = some (.duration 3) ∧ value (.dur frameA 97) base = some (.duration 3)
    ∧ value (.dur frameA 98) base = some (.duration 1) ∧ value (.dur frameA 99) base = some (.duration 8)
    ∧ value (.dur frameA 100) base = some (.duration 8) ∧ value (.dur frameA 135) base = some (.duration 3)
    ∧ value (.dur frameA 198) base = some (.duration 1) ∧ faultOf (.dur frameA 199) base = some .slotIndex := by decide

/-! ## The timer (V26), SEND and its parts (V24, V25, P1, P2) -/

/-- After START: `k` = 0, `t` = 16, `env` = 1 (V26); no call is made by START itself. -/
theorem test_start : (after (.start cmdA) (atTime base 2000)).map (fun s => (s.k, s.t, s.env, s.fLat, s.cLat, s.out.txStart))
    = some (0, 16, true, frameA, cmdA, none) := rfl
theorem test_start_in_cooldown : faultOf (.start cmdA) (atTime base 1999) = some .notEnabled := by decide

/-- V26, ticks 1, 16, 34 and 660, and a tick in READY. -/
theorem test_tick :
    (after .tick (busyAt 0 16)).map (fun s => (s.k, s.t, s.env)) = some (0, 15, true)
    ∧ (after .tick (busyAt 0 1)).map (fun s => (s.k, s.t, s.env)) = some (1, 16, false)
    ∧ (after .tick (busyAt 2 1)).map (fun s => (s.k, s.t, s.env)) = some (3, 6, false)
    ∧ (after .tick (busyAt 198 1)).map (fun s => (s.k, s.t, s.env)) = some (199, 0, false)
    ∧ after .tick (busyAt 199 0) = some (busyAt 199 0) ∧ after .tick base = some base := by decide

theorem test_finish_ok : (after .finish (answered true 2183)).map (fun s => (s.phase, s.st, s.lastTx, s.out.res, s.out.fb))
    = some (.ready, cmdA, 2183, some .ok, some true) := by decide
theorem test_finish_early :
    faultOf .finish { answered true 2183 with k := 198, t := 1 } = some .sinkAnswerEarly := by decide

/-- V24, with the two rows across the wrap and the two environment faults of R189. -/
theorem test_guard :
    value (.guard 1999) base = some (.bool false) ∧ value (.guard 2000) base = some (.bool true)
    ∧ value (.guard 4182) (stored cmdA 2183) = some (.bool false)
    ∧ value (.guard 4183) (stored cmdA 2183) = some (.bool true)
    ∧ value (.guard 0x3CF) (stored cmdA 0xFFFFFC00) = some (.bool false)
    ∧ value (.guard 0x3D0) (stored cmdA 0xFFFFFC00) = some (.bool true)
    ∧ value (.guard 4999) (stored cmdA 5000) = some (.bool true)
    ∧ value (.guard 1005) (stored cmdA 1000) = some (.bool false) := by decide

/-- P1 line 2's frame, with `U` = 2: the first durations of V20 doubled. -/
theorem test_accept : (after (.accept 0x1880) (atTime base 2000)).map (fun s =>
      (s.phase, s.fLat, (s.out.txStart.map (fun c => (c.durations.take 4, c.durations.length, c.carrierHz)))))
    = some (.busy, frameA, some ([16, 16, 2, 6], 199, 38000)) := by decide +kernel
theorem test_accept_in_cooldown : faultOf (.accept 0x1880) (atTime base 1999) = some .notEnabled := by decide

theorem test_reject : (after .reject (atTime base 1500)).map (fun s => (s.phase, s.st, s.lastTx, s.out))
    = some (.ready, base.st, 0, { txStart := none, res := some .rateLimited, fb := some false, conf := none }) := by
  decide

theorem test_transmit : (after .transmit (busyAt 0 16)).map (fun s => s.out.txStart.map (fun c => c.durations.take 4))
    = some (some [16, 16, 2, 6]) := by decide

theorem test_fail : (after .fail (answered false 2700)).map (fun s => (s.phase, s.st, s.lastTx, s.out))
    = some (.ready, base.st, 0, { txStart := none, res := some .txFailed, fb := some false, conf := none }) := by decide

/-- P1 line 2's confirmation, also as a word: 0x1880 with the time stamp 2183 (R87). -/
theorem test_commit : (after .commit (answered true 2183)).map (fun s =>
      (s.st, s.lastTx, s.out.conf, s.out.conf.map Confirmation.word, s.out.conf.map Confirmation.ts))
    = some (cmdA, 2183,
        some { stateOn := true, temperature := 24, mode := .cool, fanSpeed := .auto, confirmed := true, timestamp := 2183 },
        some 0x1880, some 2183) := by decide
theorem test_commit_on_failure : faultOf .commit (answered false 2183) = some .notEnabled := by decide

/-- P2 line 2: -3 clamps to 17, the fan falls back to LOW. -/
theorem test_send_on : (after (.sendOn (-3) 4 15)
      (atTime (stored { power := true, temp := 30, mode := .cool, fan := .low } 5200) 7200)).map (fun s => (s.phase, s.fLat))
    = some (.busy, { byte0 := 0xB2, byte1 := 0x9F, byte2 := 0x02 }) := by decide
/-- P1 line 3: 1999 ms after the commit. -/
theorem test_send_on_in_cooldown : (after (.sendOn 22 1 3) (atTime (stored cmdA 2183) 4182)).map (fun s =>
      (s.phase, s.st, s.lastTx, s.out.res, s.out.txStart)) = some (.ready, cmdA, 2183, some .rateLimited, none) := by decide
/-- P2 line 4: the sentinel in the frame, the clamped temperature in the command. -/
theorem test_send_off : (after (.sendOff 99 7 15)
      (atTime (stored { power := true, temp := 17, mode := .dry, fan := .low } 7400) 9400)).map (fun s => (s.fLat, s.cLat))
    = some ({ byte0 := 0xB2, byte1 := 0x9B, byte2 := 0xE2 },
        { power := false, temp := 30, mode := .dry, fan := .low }) := by decide
theorem test_send_off_while_busy : after (.sendOff 99 7 15) (busyAt 57 1) = some (busyAt 57 1) := by decide

theorem test_outcomes :
    (after .outcomeOk base).map (fun s => s.out.res.map Result.code) = some (some 0)
    ∧ (after .outcomeRateLimited base).map (fun s => s.out.res.map Result.code) = some (some 1)
    ∧ (after .outcomeTxFailed base).map (fun s => s.out.res.map Result.code) = some (some 2) := by decide

/-- V27: RESET at slot 57, `env` drops and nothing is reported; `c_lat` and `F_lat` are not looked at. -/
theorem test_reset : (after .reset { busyAt 57 1 with lastTx := 9 }).map (fun s =>
      (s.phase, s.st, s.lastTx, s.k, s.t, s.env, s.out)) = some (.ready, defaultParams.rst, 0, 0, 0, false, Outputs.none) := rfl

/-! ## Steps -/

/-- V27: the first requests after reset. -/
theorem test_step_first_request :
    (afterStep (presented State.reset 0x1880 1999)).map (fun s => s.out.res) = some (some .rateLimited)
    ∧ (afterStep (presented State.reset 0x1880 2000)).map (fun s => s.busy) = some true := by decide

/-- R251: an answer to an abandoned call changes nothing, also in the next SEND. -/
theorem test_step_stale_answer : (afterStep { busyAt 3 2 with
      ports := { Ports.idle 0 with txDone := true, txOk := true, txStale := true } }).map (fun s => (s.phase, s.k, s.t, s.out.res))
    = some (.busy, 3, 2, none) := by decide

/-- The ports of the next step are taken from `later`. -/
theorem test_step_takes_later_ports :
    (afterStep { base with later := [Ports.idle 7, Ports.idle 8] }).map (fun s => (s.ports.now, s.later.length))
    = some (7, 1) := by decide

theorem test_step_bad_probe : step { base with ports := { Ports.idle 0 with probe := some (24, 0xFFFFFF) } }
    = .refused (.undecodable .noFormat) := rfl

/-- The account after one step from `s`, with whether a run would be over there. -/
def accountAfter (s : State) (a : Account) : Option (Account × Bool) :=
  (afterStep s).map fun t => (a.after s t, t.over (a.after s t))

/-- R262: a run is over after a rejection and after a commit; it is not over in BUSY, after a request presented only
in BUSY (R188), or after a reset that abandons a SEND (R251). -/
theorem test_over :
    accountAfter (presented base 0x1880 1999) .empty = some (.empty, true)
    ∧ accountAfter (presented base 0x1880 2000) .empty = some ({ waiting := [], inFlight := some 0x1880 }, false)
    ∧ accountAfter (answered true 2183) { waiting := [], inFlight := some 0x1880 } = some (.empty, true) := by decide
theorem test_not_over :
    accountAfter { answered true 2183 with ports := { (answered true 2183).ports with reqValid := true, req := 0x1800 } }
        { waiting := [], inFlight := some 0x1880 } = some ({ waiting := [0x1800], inFlight := none }, false)
    ∧ accountAfter { busyAt 57 1 with ports := { Ports.idle 0 with rst := true } }
        { waiting := [], inFlight := some 0x1880 } = some ({ waiting := [0x1880], inFlight := none }, false) := by
  exact ⟨by decide, rfl⟩
/-- R224: the request that waited is presented again, and its outcome comes. -/
theorem test_over_after_presenting_again :
    accountAfter (presented base 0x1800 1999) { waiting := [0x1800], inFlight := none } = some (.empty, true) := by decide

/-- V25: the three outcomes of one line at Level A. -/
theorem test_sendA_rate_limited : (sendA base.cfg base.st 0 (splitRequest 0x1991) 1500 true 2700).map (fun x => (x.st, x.lastTx, x.out))
    = some (base.st, 0, { txStart := none, res := some .rateLimited, fb := some false, conf := none }) := by decide
theorem test_sendA_failed : (sendA base.cfg base.st 0 (splitRequest 0x1991) 2500 false 2700).map (fun x =>
      (x.st, x.lastTx, x.out.res, x.out.conf)) = some (base.st, 0, some .txFailed, none) := by decide

/-- R93's shorthand `?`: P2 line 1, `@5000 SEND on 35 ?7 LOW sink=ok @5200` is 0x23F1. -/
def lineP2 : Line :=
  { now := 5000, on := true, temp := 35, mode := .bare, fan := .named .low, sink := some true, done := some 5200 }
theorem test_line_word : packRequest lineP2.request = 0x23F1 := by decide
theorem test_line_run : (Directive.run (.send lineP2) { cfg := base.cfg, st := base.st, lastTx := 0 }).map (fun s =>
    (s.st, s.lastTx)) = some ({ power := true, temp := 30, mode := .cool, fan := .low }, 5200) := by decide

/-! ## Hypotheses: a state and operands that meet those of each statement, each clause at a boundary -/

/-- READY 2000 ms after `lastTx`. -/
def hypSpaced : State := atTime base 2000
/-- READY 1999 ms after `lastTx`. -/
def hypCooldown : State := atTime base 1999

theorem test_hyp_spaced : hypSpaced.phase = .ready ∧ Spec.spaced hypSpaced.ports.now hypSpaced.lastTx := by
  unfold Spec.spaced; decide
theorem test_hyp_not_spaced : hypCooldown.phase = .ready ∧ ¬ Spec.spaced hypCooldown.ports.now hypCooldown.lastTx := by
  unfold Spec.spaced; decide
theorem test_hyp_spaced_across_the_wrap : Spec.spaced 0x3D0 0xFFFFFC00 ∧ ¬ Spec.spaced 0x3CF 0xFFFFFC00 := by
  unfold Spec.spaced; decide
theorem test_hyp_busy : (busyAt 57 1).phase = .busy := by decide
theorem test_hyp_answer : Spec.answer (answered true 2183) ∧ Spec.answer (answered false 2183) ∧ ¬ Spec.answer (busyAt 199 0) := by
  unfold Spec.answer; decide

theorem test_hyp_RequestWordsDecodeAndEncodeBack :
    (0x1880 : BitVec 16).getLsbD 7 = true ∧ (0x1800 : BitVec 16).getLsbD 7 = false := by decide
theorem test_hyp_DecodeOfEncodeIsIdentity :
    WellFormed (.frame 0xB 0xF 0x4 0x0) = true ∧ encode (.frame 0xB 0xF 0x4 0x0) = some (.frame 0xB2BF40)
    ∧ WellFormed (.fantokKeep8to15 5) = true ∧ encode (.fantokKeep8to15 5) = some (.reqFan 0x000D) := by decide
theorem test_hyp_EncodingsAreDistinct : encode (.sendOn 24 0 0) = some (.req 0x1880) := by decide
/-- The clauses of PartsStopOutsideTheirTransition that speak of the position, the end of the train and the answer. -/
theorem test_hyp_PartsStopOutsideTheirTransition :
    (busyAt 0 15).t ≠ 8 * (busyAt 0 15).cfg.u ∧ (busyAt 1 16).k ≠ 0
    ∧ ({ answered true 0 with k := 198, t := 1 } : State).k < 199
    ∧ (answered true 0).ports.txOk = true ∧ (answered false 0).ports.txOk = false := by decide
/-- Legal parameters other than the defaults, at the ends of their ranges. -/
theorem test_hyp_ResetMeetsTheBlockInvariant :
    Params.wf { u := 1, carrierHz := 1, rst := { cmdA with temp := 17 }, rstLastTx := 0xFFFFFFFF } = true
    ∧ Params.wf { u := 1, carrierHz := 1, rst := { cmdA with temp := 30 }, rstLastTx := 0 } = true := by decide
/-- Both sides of the equivalence of FrameWordRowBuildsTheThreeBytes. -/
theorem test_hyp_FrameWordRowBuildsTheThreeBytes :
    frameNibblesGenerated 0xB 0xF 0x4 0x0 = true ∧ frameNibblesGenerated 0xB 0xB 0x4 0x0 = false := by decide
/-- Tokens and temperatures where the clauses of `Spec.Normalized` meet. -/
theorem test_hyp_NormalizeGivesTheCanonicalCommand :
    value (.normalize 0x10C3) v11 = some (.command { power := true, temp := 17, mode := .dry, fan := .high })
    ∧ value (.normalize 0x1154) v11 = some (.command { power := false, temp := 17, mode := .auto, fan := .high })
    ∧ value (.normalize 0x1E32) v11 = some (.command { power := false, temp := 30, mode := .fan, fan := .medium })
    ∧ value (.normalize 0x1F21) v11 = some (.command { power := false, temp := 30, mode := .auto, fan := .low })
    ∧ value (.normalize 0x8010) v11 = some (.command { power := false, temp := 17, mode := .heat, fan := .auto }) := by
  decide
theorem test_hyp_ClampIntoRange : ((16 : Int) < 17) ∧ ((30 : Int) < 31) ∧ (17 : Int) ≤ 17 ∧ (17 : Int) ≤ 30 := by decide
theorem test_hyp_TokenFallbackKeepsStoredFields :
    (4 : BitVec 3).toNat < 5 ∧ 5 ≤ (5 : BitVec 3).toNat ∧ (3 : BitVec 4).toNat < 4 ∧ 4 ≤ (4 : BitVec 4).toNat := by
  decide
theorem test_hyp_NibbleMapperReadsTheTables :
    Temp.canonical 17 = true ∧ Temp.canonical 30 = true ∧ Temp.canonical 16 = false ∧ Temp.canonical 31 = false := by
  decide
/-- FrameBuildGivesTheFrame, FrameDecodesBack, NormalizeIdempotent, ConfirmationWordIsTheCommittedCommand. -/
theorem test_hyp_canonical : cmdA.canonical = true ∧ Command.canonical { cmdA with power := false, temp := 17 } = true := by
  decide
/-- Two commands that share a frame, and two that do not. -/
theorem test_hyp_FrameInjective :
    frameOf { cmdA with power := false } = frameOf { cmdA with power := false, temp := 30 }
    ∧ frameOf cmdA ≠ frameOf { cmdA with temp := 30 } := by decide
theorem test_hyp_DurIsTheTrainEntry : (198 < 199) ∧ 199 ≤ 199 := by decide

theorem test_hyp_SendIsGuardThenAcceptOrReject : decode (.req 0x1880) = .ok (.sendOn 24 0 0) := by decide
theorem test_hyp_TransmitCallsTheSink :
    (busyAt 0 16).phase = .busy ∧ (busyAt 0 16).k = 0 ∧ (busyAt 0 16).t = 8 * (busyAt 0 16).cfg.u := by decide
theorem test_hyp_FailCommitsNothing : (answered false 2183).phase = .busy ∧ (answered false 2183).k = 199
    ∧ Spec.answer (answered false 2183) ∧ (answered false 2183).ports.txOk = false := by
  unfold Spec.answer; decide
theorem test_hyp_CommitWritesAllFive : (answered true 2183).phase = .busy ∧ (answered true 2183).k = 199
    ∧ Spec.answer (answered true 2183) ∧ (answered true 2183).ports.txOk = true := by
  unfold Spec.answer; decide

/-- The four clauses of TickCountsTheSlots: `t` = 2; `k` = 197 and `t` = 1; `k` = 198 and `t` = 1; READY or `k` = 199. -/
theorem test_hyp_TickCountsTheSlots :
    ((busyAt 198 2).phase = .busy ∧ (busyAt 198 2).k < 199 ∧ 1 < (busyAt 198 2).t)
    ∧ ((busyAt 197 1).k < 198 ∧ (busyAt 197 1).t ≤ 1) ∧ ((busyAt 198 1).k = 198 ∧ (busyAt 198 1).t ≤ 1)
    ∧ base.phase = .ready ∧ 199 ≤ (busyAt 199 0).k := by decide
/-- The clauses of FinishEndsTheSend that the two theorems above do not meet: no answer, an early one, READY. -/
theorem test_hyp_FinishEndsTheSend :
    ¬ Spec.answer (busyAt 199 0)
    ∧ Spec.answer { answered true 2183 with k := 198, t := 1 } ∧ ({ answered true 2183 with k := 198 } : State).k < 199
    ∧ base.phase = .ready := by
  unfold Spec.answer; decide

/-- A spaced READY state with `U` = 1 and an answer after 330 ticks: EnvelopeIsTheTrain, LevelBRefinesLevelA. -/
def hypUnit : State :=
  { State.resetWith { defaultParams with u := 1 } with
    ports := { Ports.idle 2000 with reqValid := true, req := 0x1880 }
    later := List.replicate 330 { Ports.idle 2000 with tick := true }
      ++ { Ports.idle 2183 with txDone := true, txOk := true } :: [] }

theorem test_hyp_EnvelopeIsTheTrain : cmdA.canonical = true ∧ 0 < hypUnit.cfg.u
    ∧ exec (.start cmdA) hypUnit = .next (hypUnit.startTrain cmdA frameA) := ⟨by decide, by decide, rfl⟩

theorem test_hyp_LevelBRefinesLevelA :
    hypUnit.phase = .ready ∧ 0 < hypUnit.cfg.u ∧ hypUnit.presents 0x1880
    ∧ hypUnit.later = List.replicate 330 { Ports.idle 2000 with tick := true }
        ++ { Ports.idle 2183 with txDone := true, txOk := true } :: []
    ∧ Spec.spaced hypUnit.ports.now hypUnit.lastTx
    ∧ (∀ p ∈ List.replicate 330 { Ports.idle 2000 with tick := true }, p.quiet = true ∧ p.probe = none)
    ∧ 330 * hypUnit.cfg.u ≤ (List.replicate 330 { Ports.idle 2000 with tick := true }).countP (·.tick) := by
  refine ⟨rfl, by decide, ⟨rfl, rfl, rfl⟩, rfl, by unfold Spec.spaced; decide, ?_, ?_⟩
  · intro p hp; rw [List.eq_of_mem_replicate hp]; exact ⟨rfl, rfl⟩
  · rw [List.countP_replicate]; decide
/-- The rejected case of the same statement. -/
theorem test_hyp_LevelBRefinesLevelA_rejected :
    (presented base 0x1880 1999).phase = .ready ∧ (presented base 0x1880 1999).presents 0x1880
    ∧ ¬ Spec.spaced (presented base 0x1880 1999).ports.now base.lastTx := by
  refine ⟨rfl, ⟨rfl, rfl, rfl⟩, ?_⟩
  unfold Spec.spaced; decide

/-- The clauses of StepRunsTheDecodedInstruction: a reset at which `exec` answers, an answer, a tick, a request, and
what `advance` takes next. -/
theorem test_hyp_StepRunsTheDecodedInstruction_reset : ∃ t, ({ busyAt 57 1 with ports := { Ports.idle 0 with rst := true } } : State).ports.rst = true
    ∧ exec .reset (State.clearEvents { busyAt 57 1 with ports := { Ports.idle 0 with rst := true } }) = .next t :=
  ⟨_, rfl, rfl⟩
theorem test_hyp_StepRunsTheDecodedInstruction_answer : ∃ t, (answered true 2183).ports.rst = false
    ∧ (answered true 2183).phase = .busy ∧ Spec.answer (answered true 2183)
    ∧ exec .finish (answered true 2183).clearEvents = .next t := ⟨_, rfl, rfl, ⟨rfl, rfl⟩, rfl⟩
theorem test_hyp_StepRunsTheDecodedInstruction_tick : ∃ t,
    ¬ Spec.answer { busyAt 198 1 with ports := { Ports.idle 0 with tick := true } }
    ∧ exec .tick (State.clearEvents { busyAt 198 1 with ports := { Ports.idle 0 with tick := true } }) = .next t := by
  refine ⟨_, ?_, rfl⟩
  unfold Spec.answer; decide
theorem test_hyp_StepRunsTheDecodedInstruction_request : ∃ t, (presented base 0x1880 2000).presents 0x1880
    ∧ (presented base 0x1880 2000).phase = .ready ∧ decode (.req 0x1880) = .ok (.sendOn 24 0 0)
    ∧ exec (.sendOn 24 0 0) (presented base 0x1880 2000).clearEvents = .next t := ⟨_, ⟨rfl, rfl, rfl⟩, rfl, rfl, rfl⟩
theorem test_hyp_StepRunsTheDecodedInstruction_request_busy : (presented (busyAt 57 1) 0x1880 0).presents 0x1880
    ∧ (presented (busyAt 57 1) 0x1880 0).phase = .busy ∧ ¬ Spec.answer (presented (busyAt 57 1) 0x1880 0)
    ∧ (presented (busyAt 57 1) 0x1880 0).ports.tick = false := by
  refine ⟨⟨rfl, rfl, rfl⟩, rfl, ?_, rfl⟩
  unfold Spec.answer; decide
theorem test_hyp_StepRunsTheDecodedInstruction_tick_ready :
    ({ base with ports := { Ports.idle 0 with tick := true } } : State).phase = .ready
    ∧ ({ base with ports := { Ports.idle 0 with tick := true } } : State).ports.reqValid = false := ⟨rfl, rfl⟩
/-- An idle step in either phase, a word that is a row, a word that is none, and a 16-bit word on the wrong port. -/
theorem test_hyp_StepRunsTheDecodedInstruction_silent :
    Spec.silent base ∧ Spec.silent (busyAt 57 1) ∧ base.ports.probe = none
    ∧ Spec.silent { base with ports := { Ports.idle 0 with probe := some (24, 0x00B000) } }
    ∧ decodeTableWord 24 0x00B000 = some .fannibAuto ∧ decodeTableWord 24 0xFFFFFF = none
    ∧ Spec.silent { base with ports := { Ports.idle 0 with probe := some (16, 0x1880) } } := by
  unfold Spec.silent Spec.answer; decide
theorem test_hyp_StepRunsTheDecodedInstruction_later :
    ({ base with later := [Ports.idle 7] } : State).later = Ports.idle 7 :: [] ∧ base.later = [] := ⟨rfl, rfl⟩
theorem test_hyp_WithFetchWordRunsTheWord : ∃ t, decodeTableWord 16 0x1880 = some (.sendOn 24 0 0)
    ∧ exec (.sendOn 24 0 0) (State.reset.withFetchWord 16 0x1880).clearEvents = .next t := ⟨_, by decide, rfl⟩

/-- The block invariant in a BUSY state, in the first slot with its last tick to come. -/
theorem test_hyp_StepKeepsTheBlockInvariant :
    Inv (busyAt 0 1) ∧ (∃ t, step (busyAt 0 1) = .next t) := by
  refine ⟨⟨rfl, rfl, by decide, by decide, fun _ => rfl, fun _ => rfl, fun _ _ => by decide, ?_⟩, _, rfl⟩
  intro _ h; exact absurd h (by decide)
/-- OnlyAnEarlyAnswerStopsTheBlock: an early answer does stop it, in a state that meets the invariant. -/
theorem test_hyp_OnlyAnEarlyAnswerStopsTheBlock :
    Inv { busyAt 198 1 with ports := { Ports.idle 0 with txDone := true } }
    ∧ step { busyAt 198 1 with ports := { Ports.idle 0 with txDone := true } } = .fault .sinkAnswerEarly := by
  refine ⟨⟨rfl, rfl, by decide, by decide, fun _ => rfl, fun _ => rfl, fun _ _ => by decide, ?_⟩, rfl⟩
  intro _ h; exact absurd h (by decide)

/-- OnlyCommitAndResetWriteDeviceState, BusyLeftOnlyByAnswerOrReset, OutcomeFeedbackConfirmationTogether,
ConfigurationIsNeverWritten: the step of a commit. -/
theorem test_hyp_step_commit : ∃ t, step (answered true 2183) = .next t ∧ (answered true 2183).ports.rst = false
    ∧ (answered true 2183).ports.probe = none ∧ t.phase = .ready ∧ t.out.res = some .ok ∧ t.st = cmdA :=
  ⟨_, rfl, rfl, rfl, rfl, rfl, rfl⟩
/-- TrainInFlightIsFixed: the step of a tick that ends slot 197. -/
theorem test_hyp_TrainInFlightIsFixed : ∃ t, step { busyAt 197 1 with ports := { Ports.idle 0 with tick := true } } = .next t
    ∧ t.k = 198 := ⟨_, rfl, rfl⟩
/-- Its clause without a tick. -/
theorem test_hyp_TrainInFlightIsFixed_no_tick : ∃ t, step (busyAt 197 1) = .next t ∧ (busyAt 197 1).phase = .busy
    ∧ (busyAt 197 1).ports.rst = false ∧ (busyAt 197 1).ports.tick = false := ⟨_, rfl, rfl, rfl, rfl⟩
/-- SinkCalledExactlyAtAcceptance: the step of an acceptance. -/
theorem test_hyp_SinkCalledExactlyAtAcceptance : ∃ t, step (presented base 0x1880 2000) = .next t ∧ t.phase = .busy
    ∧ t.out.txStart.isSome = true := ⟨_, rfl, rfl, rfl⟩
/-- ResultFieldIsReadByNothing: a step of each of the three kinds. -/
theorem test_hyp_ResultFieldIsReadByNothing : (∃ t, step base = .next t)
    ∧ step { answered true 2183 with k := 198, t := 1 } = .fault .sinkAnswerEarly
    ∧ step { base with ports := { Ports.idle 0 with probe := some (24, 0xFFFFFF) } } = .refused (.undecodable .noFormat) :=
  ⟨⟨_, rfl⟩, rfl, rfl⟩

/-- A commit at 2183, an idle step, and a request at 4183. -/
def hypRun : State :=
  { answered true 2183 with
    later := [Ports.idle 3000, { Ports.idle 4183 with reqValid := true, req := 0x1880 }] }

theorem test_hyp_AcceptedSendsAreSpacedAfterCommit : ∃ s₁ u u', step hypRun = .next s₁ ∧ hypRun.phase = .busy
    ∧ s₁.out.res = some .ok ∧ hypRun.ports.probe = none ∧ Sys2Proof.core.run 1 s₁ = .next u
    ∧ (∀ m, m < 1 → ∀ v v', Sys2Proof.core.run m s₁ = .next v → step v = .next v' →
        v.ports.rst = false ∧ v'.out.res ≠ some .ok)
    ∧ step u = .next u' ∧ u.phase = .ready ∧ u'.phase = .busy := by
  refine ⟨_, _, _, rfl, rfl, rfl, rfl, rfl, ?_, rfl, rfl, rfl⟩
  intro m hm v v' hv hs
  obtain rfl : m = 0 := by omega
  cases hv
  cases hs
  exact ⟨rfl, by decide⟩

theorem test_hyp_SameRequestSendsTheSameTrain : ∃ x y, sendA base.cfg base.st 0 (splitRequest 0x15D4) 2000 true 2183 = some x
    ∧ x.out.res = some .ok ∧ sendA base.cfg x.st x.lastTx (splitRequest 0x15D4) 4183 true 4366 = some y
    ∧ Spec.spaced 4183 2183 := by
  refine ⟨_, _, rfl, rfl, rfl, ?_⟩
  unfold Spec.spaced; decide

theorem test_hyp_RetryAfterFailureIsAccepted : ∃ t, exec .finish (answered false 2000) = .next t
    ∧ Spec.spaced (answered false 2000).ports.now (answered false 2000).lastTx := by
  refine ⟨_, rfl, ?_⟩
  unfold Spec.spaced; decide

end Sys2Proof.Tests
end

/-! SUPPORT. The wire train by its entries: the closed form of DUR is the train's entry, and a train lasts 330 units
(42_pulse_train.md R152 to R157). -/

namespace Sys2Proof.Machine

/-- A symbol is a bit mark and the space of its bit (R150). -/
theorem symDurations_eq (b : Bool) : symDurations b = [bitMark, if b then oneSpace else zeroSpace] := by
  cases b <;> rfl

/-- The closed form of R157 on the first repetition is the list of R153. -/
theorem map_slotDur_range_repLen (f : Frame) : (List.range repLen).map (slotDur f) = repOf f := by
  simp only [repOf, encPair, encByte, symDurations_eq]
  rfl

/-- The second repetition is the first again, 100 slots later (R154). -/
theorem slotDur_add_hundred (f : Frame) {k : Nat} (h : k < 99) : slotDur f (100 + k) = slotDur f k := by
  simp [slotDur, show 100 + k ≠ 99 by omega, show ¬ 100 + k < 99 by omega, show k ≠ 99 by omega, h]

theorem map_slotDur_range_trainLen (f : Frame) : (List.range trainLen).map (slotDur f) = trainOf f := by
  have second : (List.range repLen).map (fun k => slotDur f (100 + k)) = repOf f := by
    rw [← map_slotDur_range_repLen]
    exact List.map_congr_left fun k hk => slotDur_add_hundred f (List.mem_range.mp hk)
  have gap_slot : slotDur f 99 = gap := rfl
  rw [show trainLen = 99 + 1 + 99 from rfl, List.range_add, List.range_succ]
  simp [trainOf, map_slotDur_range_repLen, second, gap_slot, Function.comp_def]

/-- DUR is the train's entry, and both end at slot 199 (R157). -/
theorem dur?_eq_getElem? (f : Frame) (k : Nat) : dur? f k = (trainOf f)[k]? := by
  rw [← map_slotDur_range_trainLen, List.getElem?_map, dur?]
  by_cases h : k < trainLen <;> simp [h]

/-- A bit and its complement: two marks, a short and a long space. -/
theorem symDurations_sum_add_not (b : Bool) : (symDurations b).sum + (symDurations (!b)).sum = 6 := by
  cases b <;> rfl

/-- A byte and its complement last 48 units (R152). -/
theorem encPair_sum (b : Byte) : (encPair b).sum = 48 := by
  have h (i : Nat) := symDurations_sum_add_not (b.getLsbD i)
  simp only [encPair, encByte, List.sum_append, BitVec.getLsbD_not, Nat.reduceLT, decide_true, Bool.true_and]
  linarith [h 0, h 1, h 2, h 3, h 4, h 5, h 6, h 7]

theorem repOf_sum (f : Frame) : (repOf f).sum = 161 := by
  simp [repOf, encPair_sum, hdrMark, hdrSpace, bitMark]

/-- A train lasts 330 units whatever its frame (R154). -/
theorem trainOf_sum (f : Frame) : (trainOf f).sum = 330 := by simp [trainOf, repOf_sum, gap]

end Sys2Proof.Machine

/-! SUPPORT. Ticks: how many of them a train in flight still needs, and that each tick uses up one
(42_pulse_train.md R162, R163). -/

namespace Sys2Proof.Machine

variable {s : State}

/-- The ticks after which a train in flight is finished: those left in the current slot, of which there is always
one (R163), and the entries of the train after it. -/
def State.ticksLeft (s : State) : Nat :=
  if s.k < trainLen then max 1 s.t + s.cfg.u * ((trainOf s.fLat).drop (s.k + 1)).sum else 0

theorem ticksLeft_of_lt (h : s.k < trainLen) :
    s.ticksLeft = max 1 s.t + s.cfg.u * ((trainOf s.fLat).drop (s.k + 1)).sum := if_pos h

theorem ticksLeft_eq_zero_iff : s.ticksLeft = 0 ↔ trainLen ≤ s.k := by
  unfold State.ticksLeft
  split <;> omega

@[simp] theorem ticksLeft_callSink (s : State) : s.callSink.ticksLeft = s.ticksLeft := rfl
@[simp] theorem ticksLeft_advance (s : State) : s.advance.ticksLeft = s.ticksLeft := by simp [State.ticksLeft]

/-- The units of the train from slot `k` on are those of slot `k` and those after it. -/
theorem drop_trainOf_sum (f : Frame) {k : Nat} (h : k < trainLen) :
    ((trainOf f).drop k).sum = slotDur f k + ((trainOf f).drop (k + 1)).sum := by
  have hk : (trainOf f)[k]? = some (slotDur f k) := by rw [← dur?_eq_getElem?, dur?, if_pos h]
  obtain ⟨hl, hk⟩ := List.getElem?_eq_some_iff.mp hk
  rw [List.drop_eq_getElem_cons hl, hk, List.sum_cons]

/-- A new slot lasts all its units, so it starts with the ticks of the train from there on. -/
theorem ticksLeft_nextSlot (hu : 0 < s.cfg.u) :
    s.nextSlot.ticksLeft = s.cfg.u * ((trainOf s.fLat).drop (s.k + 1)).sum := by
  unfold State.ticksLeft
  rw [State.nextSlot_t]
  simp only [State.nextSlot_k, State.nextSlot_cfg, State.nextSlot_fLat]
  split
  · next h =>
    have hpos : 1 ≤ s.cfg.u * slotDur s.fLat (s.k + 1) := Nat.mul_pos hu (slotDur_pos _ _)
    rw [drop_trainOf_sum _ h, Nat.mul_add, Nat.max_eq_right hpos]
  · next h =>
    rw [List.drop_of_length_le (by rw [trainOf_length]; omega)]
    simp

/-- Each tick while BUSY uses up one of the ticks left (R163). -/
theorem ticksLeft_tickTimer (hb : s.phase = .busy) (hu : 0 < s.cfg.u) :
    s.tickTimer.ticksLeft = s.ticksLeft - 1 := by
  rcases tickTimer_cases s with ⟨hw, h⟩ | ⟨-, hk, ht, h⟩ | ⟨-, hk, ht, h⟩
  · have hk : trainLen ≤ s.k := hw.resolve_left (by simp [hb])
    rw [h, ticksLeft_eq_zero_iff.mpr hk]
  · rw [h, ticksLeft_of_lt hk, ticksLeft_of_lt (s := { s with t := s.t - 1 }) hk]
    dsimp only
    omega
  · rw [h, ticksLeft_nextSlot hu, ticksLeft_of_lt hk]
    omega

/-- START leaves the whole train to be counted. -/
theorem ticksLeft_startTrain (hu : 0 < s.cfg.u) (c : Command) (f : Frame) :
    (s.startTrain c f).ticksLeft = 330 * s.cfg.u := by
  have h0 : (0 : Nat) < trainLen := by decide
  have hsum : (trainOf f).sum = slotDur f 0 + ((trainOf f).drop 1).sum := by
    simpa only [List.drop_zero] using drop_trainOf_sum f h0
  rw [trainOf_sum] at hsum
  have hpos : 1 ≤ s.cfg.u * slotDur f 0 := Nat.mul_pos hu (slotDur_pos _ _)
  rw [ticksLeft_of_lt (s := s.startTrain c f) h0]
  simp only [State.startTrain_t, State.startTrain_cfg, State.startTrain_fLat, State.startTrain_k, Nat.zero_add,
    Nat.max_eq_right hpos]
  rw [← Nat.mul_add, ← hsum, Nat.mul_comm]

end Sys2Proof.Machine

/-! SUPPORT. The steps of a SEND, each as the state it ends in: the request, the steps while the train is emitted, the
sink's answer (43_rate_limiter.md R180 to R186, 42_pulse_train.md R163, R164). -/

namespace Sys2Proof.Machine

variable {s : State}

/-! ### The request -/

/-- A request presented in READY steps as SEND of its fields. -/
theorem step_of_request {t : State} {w : BitVec 16} (hp : s.phase = .ready) (hw : s.presents w)
    (h : sendRequest (splitRequest w) s.clearEvents = .next t) : step s = .next t.advance := by
  obtain ⟨hr, hv, rfl⟩ := hw
  refine step_of_exec (i := decodeRequest s.ports.req) ?_ ((exec_decodeRequest _ _).trans h)
  simp [State.select, hr, hp, hv, selectRequest_eq]

/-- Outside the guard the step rejects the request (R183). -/
theorem step_rejected {w : BitVec 16} (hp : s.phase = .ready) (hw : s.presents w) (hg : s.guardNow = false) :
    step s = .next (s.clearEvents.raiseOutcome .rateLimited).advance :=
  step_of_request hp hw (sendRequest_rejected _ hp hg)

/-- Inside the guard the step starts the train of the normalized command and calls the sink (R182, R184). -/
theorem step_accepted {w : BitVec 16} (hp : s.phase = .ready) (hw : s.presents w) (hg : s.guardNow = true) :
    ∃ f, frameOf (normalizeRequest (splitRequest w) s.st) = some f
      ∧ step s = .next (s.clearEvents.startTrain (normalizeRequest (splitRequest w) s.st) f).callSink.advance := by
  obtain ⟨f, hf, ha⟩ := acceptRequest_eq (splitRequest w) s.clearEvents
  exact ⟨f, hf, step_of_request hp hw ((sendRequest_accepted (s := s.clearEvents) _ hp hg).trans ha)⟩

/-! ### While the train is emitted -/

theorem quiet_iff : s.ports.quiet = true ↔ s.ports.rst = false ∧ s.answered = false := by
  unfold Ports.quiet State.answered
  rw [Bool.and_eq_true, Bool.not_eq_true', Bool.not_eq_true']

/-- A step in BUSY with neither reset nor answer nor evaluated word counts a tick if there is one, and does nothing
else (R163, R165, R188). -/
theorem step_quiet (hb : s.phase = .busy) (hq : s.ports.quiet = true) (hn : s.ports.probe = none) :
    step s = .next (if s.ports.tick then s.clearEvents.tickTimer else s.clearEvents).advance := by
  obtain ⟨hr, ha⟩ := quiet_iff.mp hq
  cases ht : s.ports.tick
  case true => exact step_of_exec (i := .tick) (by simp [State.select, hr, hb, ha, ht]) rfl
  case false =>
    cases hv : s.ports.reqValid
    case true =>
      refine step_of_exec (i := decodeRequest s.ports.req) ?_
        ((exec_decodeRequest _ _).trans (sendRequest_busy _ hb))
      simp [State.select, hr, hb, ha, ht, hv, selectRequest_eq]
    case false => exact step_of_idle (by simp [State.select, hr, hb, ha, ht, hv, selectProbe, hn])

/-- The registers of a SEND in flight in which two states agree: all that its end depends on but the count. -/
structure SameSend (s s' : State) : Prop where
  cfg    : s'.cfg = s.cfg
  st     : s'.st = s.st
  lastTx : s'.lastTx = s.lastTx
  phase  : s'.phase = s.phase
  cLat   : s'.cLat = s.cLat

theorem SameSend.refl (s : State) : SameSend s s := ⟨rfl, rfl, rfl, rfl, rfl⟩

theorem SameSend.trans {s s' s'' : State} (h : SameSend s s') (h' : SameSend s' s'') : SameSend s s'' :=
  ⟨h'.cfg.trans h.cfg, h'.st.trans h.st, h'.lastTx.trans h.lastTx, h'.phase.trans h.phase, h'.cLat.trans h.cLat⟩

/-- The inputs at this step and the later ones are what the environment presents from here on (log 1). -/
theorem advance_inputs (h : s.later ≠ []) : s.advance.ports :: s.advance.later = s.later := by
  obtain ⟨p, ps, h⟩ := List.exists_cons_of_ne_nil h
  rw [advance_of_later h, h]

/-- What one step of an emission leaves. -/
theorem step_quiet_keeps (hb : s.phase = .busy) (hu : 0 < s.cfg.u) (hl : s.later ≠ [])
    (hq : s.ports.quiet = true) (hn : s.ports.probe = none) :
    ∃ s', step s = .next s' ∧ SameSend s s' ∧ s'.ports :: s'.later = s.later
      ∧ s'.ticksLeft = s.ticksLeft - (if s.ports.tick then 1 else 0) := by
  refine ⟨_, step_quiet hb hq hn, ?_⟩
  split
  · refine ⟨⟨by simp, by simp, by simp, by simp, by simp⟩, ?_, ?_⟩
    · simpa using advance_inputs (s := s.clearEvents.tickTimer) (by simpa using hl)
    · rw [ticksLeft_advance]
      exact ticksLeft_tickTimer (s := s.clearEvents) hb hu
  · exact ⟨⟨by simp, by simp, by simp, by simp, by simp⟩, advance_inputs (s := s.clearEvents) hl,
      ticksLeft_advance _⟩

/-- An emission: the steps of `mid` keep the SEND in flight and count the ticks in `mid`; what is run after them runs
from where they end, with `ans` on the ports. -/
theorem run_quiet {mid rest : List Ports} {ans : Ports} (hb : s.phase = .busy) (hu : 0 < s.cfg.u)
    (hin : s.ports :: s.later = mid ++ ans :: rest) (hmid : ∀ p ∈ mid, p.quiet = true ∧ p.probe = none) :
    ∃ s', (∀ n, Sys2Proof.core.run (mid.length + n) s = Sys2Proof.core.run n s') ∧ SameSend s s' ∧ s'.ports = ans
      ∧ s'.ticksLeft = s.ticksLeft - mid.countP (·.tick) := by
  induction mid generalizing s with
  | nil =>
    obtain ⟨hp, -⟩ := List.cons.inj hin
    exact ⟨s, fun n => by simp, .refl s, hp, by simp⟩
  | cons p mid ih =>
    obtain ⟨rfl, hlater⟩ := List.cons.inj hin
    obtain ⟨⟨hq, hn⟩, hmid⟩ := List.forall_mem_cons.mp hmid
    obtain ⟨s₁, hstep, hsame, hin₁, hleft⟩ := step_quiet_keeps hb hu (by simp [hlater]) hq hn
    obtain ⟨s', hrun, hsame', hans, hleft'⟩ :=
      ih (hsame.phase.trans hb) (hsame.cfg.symm ▸ hu) (hin₁.trans hlater) hmid
    refine ⟨s', fun n => ?_, hsame.trans hsame', hans, ?_⟩
    · rw [List.length_cons, Nat.add_right_comm, run_succ _ hstep, hrun]
    · rw [hleft', hleft, List.countP_cons, Nat.sub_sub, Nat.add_comm]

/-! ### The answer -/

/-- The sink's answer after the train commits the SEND or fails it (R164, R185, R186). -/
theorem step_answered (hb : s.phase = .busy) (hr : s.ports.rst = false) (ha : s.answered = true)
    (hk : trainLen ≤ s.k) :
    step s = .next
      (if s.ports.txOk then s.clearEvents.commitSend else s.clearEvents.raiseOutcome .txFailed).advance := by
  refine step_of_exec (i := .finish) (by simp [State.select, hr, hb, ha]) ?_
  have hk : ¬ s.k < trainLen := by omega
  change finishSend s.clearEvents = _
  cases ho : s.ports.txOk <;> simp [finishSend, hb, ha, hk, ho]

end Sys2Proof.Machine

/-! SUPPORT. Level A on each side of the guard (43_rate_limiter.md R180, R181), and the refinement (00_scope.md R4). -/

namespace Sys2Proof.Machine

/-- The guard is R181 on mathematical numbers. -/
theorem guardPasses_iff_spaced (t0 lastTx : Time) : guardPasses t0 lastTx = true ↔ Spec.spaced t0 lastTx := by
  rw [guardPasses, decide_eq_true_iff, BitVec.toNat_sub, Spec.spaced,
    show 2 ^ 32 - lastTx.toNat + t0.toNat = t0.toNat + 2 ^ 32 - lastTx.toNat by omega]

/-- What the transaction of an accepted request leaves, by the sink's answer. -/
def acceptedTransaction (p : Params) (st : Command) (lastTx : Time) (c : Command) (f : Frame) (ok : Bool)
    (t1 : Time) : Transaction :=
  { st := if ok then c else st
    lastTx := if ok then t1 else lastTx
    out := { txStart := some { durations := sinkDurations p.u f, carrierHz := p.carrierHz }
             res := some (if ok then .ok else .txFailed)
             fb := some ok
             conf := if ok then some (confirmationOf c t1) else none } }

section LevelA
variable {p : Params} {st : Command} {lastTx t0 t1 : Time} {r : Request} {f : Frame} (ok : Bool)

theorem sendA_rejected (hg : guardPasses t0 lastTx = false) :
    sendA p st lastTx r t0 ok t1 = some
      { st := st, lastTx := lastTx, out := { Outputs.none with res := some .rateLimited, fb := some false } } := by
  simp [sendA, hg, Outputs.none]

theorem sendA_accepted (hg : guardPasses t0 lastTx = true) (hf : frameOf (normalizeRequest r st) = some f) :
    sendA p st lastTx r t0 ok t1 = some (acceptedTransaction p st lastTx (normalizeRequest r st) f ok t1) := by
  cases ok <;> simp [sendA, hg, hf, acceptedTransaction]

end LevelA

/-- A SEND has ended in `s` as the transaction `x` says: READY, with its registers, outcome, feedback and confirmation.
The sink call is not among them: at Level B it was driven at START (log 18). -/
structure EndsAs (s : State) (x : Transaction) : Prop where
  phase  : s.phase = .ready
  st     : s.st = x.st
  lastTx : s.lastTx = x.lastTx
  res    : s.out.res = x.out.res
  fb     : s.out.fb = x.out.fb
  conf   : s.out.conf = x.out.conf

section Emission
variable {s : State}

/-- The answer's step ends the SEND as the transaction of its latched command. -/
theorem step_answered_endsAs (f : Frame) (hb : s.phase = .busy) (hr : s.ports.rst = false) (ha : s.answered = true)
    (hk : trainLen ≤ s.k) :
    ∃ s', step s = .next s'
      ∧ EndsAs s' (acceptedTransaction s.cfg s.st s.lastTx s.cLat f s.ports.txOk s.ports.now) := by
  refine ⟨_, step_answered hb hr ha hk, ?_⟩
  cases s.ports.txOk <;> constructor <;> simp [acceptedTransaction, Outputs.none]

/-- A SEND in flight, steps that bring the ticks it still needs, then the answer: it ends as the transaction of the
command latched at the start of the run. -/
theorem run_to_answer_endsAs {mid rest : List Ports} {ans : Ports} (f : Frame) (hb : s.phase = .busy)
    (hu : 0 < s.cfg.u) (hin : s.ports :: s.later = mid ++ ans :: rest)
    (hmid : ∀ p ∈ mid, p.quiet = true ∧ p.probe = none) (hticks : s.ticksLeft ≤ mid.countP (·.tick))
    (hr : ans.rst = false) (hdone : ans.txDone = true) (hstale : ans.txStale = false) :
    ∃ s₂, Sys2Proof.core.run (mid.length + 1) s = .next s₂
      ∧ EndsAs s₂ (acceptedTransaction s.cfg s.st s.lastTx s.cLat f ans.txOk ans.now) := by
  obtain ⟨s', hrun, hsame, rfl, hleft⟩ := run_quiet hb hu hin hmid
  have hk : trainLen ≤ s'.k := ticksLeft_eq_zero_iff.mp (by omega)
  obtain ⟨s₂, hstep, hend⟩ :=
    step_answered_endsAs f (hsame.phase.trans hb) hr (by simp [State.answered, hdone, hstale]) hk
  rw [hsame.cfg, hsame.st, hsame.lastTx, hsame.cLat] at hend
  exact ⟨s₂, by rw [hrun, run_succ _ hstep, run_zero], hend⟩

end Emission

/-- Settles O57: a rejected request is its transaction in one step. An accepted one starts 330 U ticks; the steps with
neither reset nor answer use them up and keep what START latched, and the answer then ends the SEND as Level A does. -/
theorem levelBRefinesLevelA : Obligations.LevelBRefinesLevelA := by
  unfold Obligations.LevelBRefinesLevelA
  intro s w mid ans rest hp hu hw hl
  rw [← guardPasses_iff_spaced]
  cases hg : guardPasses s.ports.now s.lastTx
  case false =>
    exact ⟨_, sendA_rejected _ hg, _, step_rejected hp hw hg, by simp [Outputs.none], fun _ => by simp,
      fun h => absurd h (by decide)⟩
  case true =>
    obtain ⟨f, hf, hstep⟩ := step_accepted hp hw hg
    refine ⟨_, sendA_accepted _ hg hf, _, hstep, by simp [acceptedTransaction], fun h => absurd rfl h, ?_⟩
    intro _ hmid hticks hr hdone hstale
    generalize normalizeRequest (splitRequest w) s.st = c at hstep ⊢
    have hin := (advance_inputs (s := (s.clearEvents.startTrain c f).callSink) (by simp [hl])).trans hl
    have hleft := ticksLeft_startTrain (s := s.clearEvents) hu c f
    obtain ⟨s₂, hrun, hend⟩ :=
      run_to_answer_endsAs f (by simp) (by simpa using hu) hin hmid (by simpa [hleft] using hticks) hr hdone hstale
    simp only [State.advance_cfg, State.advance_st, State.advance_lastTx, State.advance_cLat] at hend
    exact ⟨s₂, (run_succ _ hstep).trans hrun, hend.phase, hend.st, hend.lastTx, hend.res, hend.fb, hend.conf⟩

end Sys2Proof.Machine

/-! SUPPORT. The block invariant (10_state.md R20, R23; 42_pulse_train.md R162, R163): each operation a step can run
keeps it, so every step does. -/

namespace Sys2Proof.Machine

variable {s : State}

/-- In READY the invariant asks nothing of the latches, and of `k` and `t` only their ranges (R32). -/
theorem Inv.of_ready (hp : s.phase = .ready) (hcfg : s.cfg.wf = true) (hst : s.st.canonical = true)
    (hk : s.k ≤ 199) (ht : s.t ≤ 8 * s.cfg.u) : Inv s where
  cfg_wf := hcfg
  st_canonical := hst
  k_le := hk
  t_le := ht
  cLat_canonical hb := by simp [hp] at hb
  fLat_frame hb := by simp [hp] at hb
  t_in_slot hb := by simp [hp] at hb
  t_done hb := by simp [hp] at hb

/-- The invariant does not speak of the inputs, the outputs and the model's result field. -/
theorem Inv.withIo (h : Inv s) (p : Ports) (ps : List Ports) (o : Outputs) (r : SubResult) :
    Inv { s with ports := p, later := ps, out := o, sub := r } := { h with }

theorem Inv.clearEvents (h : Inv s) : Inv s.clearEvents := h.withIo _ _ _ _

theorem Inv.callSink (h : Inv s) : Inv s.callSink := h.withIo _ _ _ _

theorem Inv.setSub (h : Inv s) (r : SubResult) : Inv (s.setSub r) := h.withIo _ _ _ _

theorem Inv.advance (h : Inv s) : Inv s.advance := by
  unfold State.advance
  split <;> exact h.withIo _ _ _ _

theorem Inv.raiseOutcome (h : Inv s) (x : Result) : Inv (s.raiseOutcome x) :=
  .of_ready rfl h.cfg_wf h.st_canonical h.k_le h.t_le

/-- A commit stores the latched command, which is canonical while BUSY (R23, R186). -/
theorem Inv.commitSend (h : Inv s) (hb : s.phase = .busy) : Inv s.commitSend :=
  .of_ready rfl h.cfg_wf (h.cLat_canonical hb) h.k_le h.t_le

/-- The three legality conditions of R7. -/
theorem params_wf_iff {p : Params} : p.wf = true ↔ 0 < p.u ∧ 0 < p.carrierHz ∧ p.rst.canonical = true := by
  simp [Params.wf, and_assoc]

/-- Reset stores the reset command, which is canonical in legal parameters (R7, R250). -/
theorem Inv.resetBlock (h : Inv s) : Inv s.resetBlock := by
  obtain ⟨-, -, hrst⟩ := params_wf_iff.mp h.cfg_wf
  exact .of_ready rfl h.cfg_wf hrst (Nat.zero_le _) (Nat.zero_le _)

/-- A slot that begins has all its units left: at least one, and no more than 8 U (R157). -/
theorem slot_units {p : Params} (h : p.wf = true) (f : Frame) (k : Nat) :
    1 ≤ p.u * slotDur f k ∧ p.u * slotDur f k ≤ 8 * p.u := by
  obtain ⟨hu, -, -⟩ := params_wf_iff.mp h
  exact ⟨Nat.mul_pos hu (slotDur_pos f k), Nat.mul_comm 8 p.u ▸ Nat.mul_le_mul_left p.u (slotDur_le f k)⟩

/-- START of a canonical command latches it with its frame, at the first unit of slot 0 (R162). -/
theorem Inv.startTrain (h : Inv s) {c : Command} {f : Frame} (hc : c.canonical = true) (hf : frameOf c = some f) :
    Inv (s.startTrain c f) := by
  obtain ⟨hpos, hle⟩ := slot_units h.cfg_wf f 0
  exact { h with
    k_le := Nat.zero_le _
    t_le := hle
    cLat_canonical := fun _ => hc
    fLat_frame := fun _ => hf
    t_in_slot := fun _ _ => ⟨hpos, le_rfl⟩
    t_done := fun _ hk => absurd hk (by simp) }

/-- The end of a slot before the last is the beginning of the next; the end of the last leaves `t` = 0 (R163). -/
theorem Inv.nextSlot (h : Inv s) (hk : s.k < 199) : Inv s.nextSlot := by
  have ht := s.nextSlot_t
  obtain ⟨hpos, hle⟩ := slot_units h.cfg_wf s.fLat (s.k + 1)
  constructor <;> simp only [State.nextSlot_cfg, State.nextSlot_st, State.nextSlot_phase, State.nextSlot_cLat,
    State.nextSlot_fLat, State.nextSlot_k]
  case cfg_wf => exact h.cfg_wf
  case st_canonical => exact h.st_canonical
  case k_le => omega
  case t_le =>
    rw [ht]
    split
    · exact hle
    · exact Nat.zero_le _
  case cLat_canonical => exact h.cLat_canonical
  case fLat_frame => exact h.fLat_frame
  case t_in_slot =>
    intro _ hk'
    rw [ht, if_pos hk']
    exact ⟨hpos, le_rfl⟩
  case t_done =>
    intro _ hk'
    rw [ht, if_neg hk'.not_lt]

theorem Inv.tickTimer (h : Inv s) : Inv s.tickTimer := by
  rcases tickTimer_cases s with ⟨-, e⟩ | ⟨hb, hk, ht, e⟩ | ⟨-, hk, -, e⟩ <;> rw [e]
  · exact h
  · have hslot := h.t_in_slot hb hk
    exact { h with
      t_le := (Nat.sub_le _ _).trans h.t_le
      t_in_slot := fun _ _ => ⟨Nat.le_sub_one_of_lt ht, (Nat.sub_le _ _).trans hslot.2⟩
      t_done := fun _ hk' => absurd hk' hk.ne }
  · exact h.nextSlot hk

/-- Settles O47: the operation of each kind of step keeps the invariant, and so do the parts of a step around it. -/
theorem stepKeepsTheBlockInvariant : Obligations.StepKeepsTheBlockInvariant := by
  unfold Obligations.StepKeepsTheBlockInvariant
  intro s s' hi h
  have hc := hi.clearEvents
  cases step_cases h with
  | reset _ e => exact e ▸ hc.resetBlock.advance
  | commit _ hb _ _ _ e => exact e ▸ (hc.commitSend hb).advance
  | fail _ _ _ _ _ e => exact e ▸ (hc.raiseOutcome _).advance
  | tick _ _ _ e => exact e ▸ hc.tickTimer.advance
  | reject _ _ _ _ e => exact e ▸ (hc.raiseOutcome _).advance
  | accept _ _ _ _ _ hf e => exact e ▸ (hc.startTrain (normalizeRequest_canonical _ _) hf).callSink.advance
  | idle _ _ _ e => exact e ▸ hc.advance
  | probeSub _ _ _ _ v e => exact e ▸ (hc.setSub v).advance
  | probeOutcome _ _ _ _ _ e => exact e ▸ (hc.withIo _ _ _ _).advance

/-- The state after reset with legal parameters meets the invariant (R23, R32). -/
theorem inv_resetWith {p : Params} (h : p.wf = true) : Inv (State.resetWith p) := by
  obtain ⟨-, -, hrst⟩ := params_wf_iff.mp h
  exact .of_ready rfl h hrst (Nat.zero_le _) (Nat.zero_le _)

/-- Settles O46: `State.reset` is the case of the model's own parameters. -/
theorem resetMeetsTheBlockInvariant : Obligations.ResetMeetsTheBlockInvariant := by
  unfold Obligations.ResetMeetsTheBlockInvariant
  exact ⟨fun p h => ⟨inv_resetWith h, rfl⟩, inv_resetWith (by decide), rfl⟩

/-- Settles O43: each is a field of the state after reset. -/
theorem resetStateValues : Obligations.ResetStateValues := by
  unfold Obligations.ResetStateValues
  exact ⟨rfl, rfl, rfl, rfl, rfl, rfl, rfl, rfl, rfl, rfl⟩

end Sys2Proof.Machine

/-! SUPPORT. What a step leaves unchanged: DeviceState and `lastTx` but for a commit (10_state.md R21, R24), and the
configuration (R26). -/

namespace Sys2Proof.Machine

variable {s : State}

theorem answered_iff_answer : s.answered = true ↔ Spec.answer s := by
  simp [State.answered, Spec.answer]

/-- Settles O49: of the steps without a reset only a commit writes the two registers. -/
theorem onlyCommitAndResetWriteDeviceState : Obligations.OnlyCommitAndResetWriteDeviceState := by
  unfold Obligations.OnlyCommitAndResetWriteDeviceState
  intro s s' h hrst
  cases step_cases h with
  | reset hr e => simp [hrst] at hr
  | commit _ hb ha hk ho e =>
    subst e
    exact .inr ⟨hb, hk, answered_iff_answer.mp ha, ho, by simp, by simp, by simp⟩
  | fail _ _ _ _ _ e | tick _ _ _ e | reject _ _ _ _ e | accept _ _ _ _ _ _ e | idle _ _ _ e
  | probeSub _ _ _ _ _ e | probeOutcome _ _ _ _ _ e =>
    subst e
    exact .inl (by simp)

/-- Settles O54: no operation of a step writes `cfg`, reset included. -/
theorem configurationIsNeverWritten : Obligations.ConfigurationIsNeverWritten := by
  unfold Obligations.ConfigurationIsNeverWritten
  intro s s' h
  cases step_cases h with
  | reset _ e | commit _ _ _ _ _ e | fail _ _ _ _ _ e | tick _ _ _ e | reject _ _ _ _ e
  | accept _ _ _ _ _ _ e | idle _ _ _ e | probeSub _ _ _ _ _ e | probeOutcome _ _ _ _ _ e =>
    simp [e]

end Sys2Proof.Machine

/-! SUPPORT. The model's own result field (log 5): no operation reads it, so no step does. -/

namespace Sys2Proof.Machine

/-- Two outcomes that differ in the result field of their next states alone, or stop alike. -/
inductive SameButSub : Exec → Exec → Prop
  | next (t : State) (r : SubResult) : SameButSub (.next t) (.next (t.setSub r))
  | fault (f : Fault) : SameButSub (.fault f) (.fault f)
  | refused (x : Refusal) : SameButSub (.refused x) (.refused x)

section
variable (s : State) (r : SubResult)

/-! ### Operations that set the field -/

theorem SameButSub.setSub (v : SubResult) : SameButSub (.next (s.setSub v)) (.next ((s.setSub r).setSub v)) :=
  .next (s.setSub v) v

theorem ofTable_sameButSub (v : Option SubResult) : SameButSub (ofTable v s) (ofTable v (s.setSub r)) := by
  cases v
  case none => exact .fault _
  case some v => exact .setSub s r v

theorem execDur_sameButSub (f : Frame) (k : Nat) : SameButSub (execDur f k s) (execDur f k (s.setSub r)) := by
  unfold execDur
  cases dur? f k
  case none => exact .fault _
  case some d => exact .setSub s r _

/-! ### Operations that keep the field -/

theorem SameButSub.ite {a a' b b' : Exec} (c : Prop) [Decidable c] (ha : SameButSub a a') (hb : SameButSub b b') :
    SameButSub (if c then a else b) (if c then a' else b') := by
  split
  · exact ha
  · exact hb

theorem startCommand_sameButSub (c : Command) : SameButSub (startCommand c s) (startCommand c (s.setSub r)) := by
  unfold startCommand
  cases frameOf c
  case none => exact .fault _
  case some f => exact .next (s.startTrain c f) r

theorem acceptRequest_sameButSub (q : Request) : SameButSub (acceptRequest q s) (acceptRequest q (s.setSub r)) := by
  obtain ⟨f, hf, e⟩ := acceptRequest_eq q s
  obtain ⟨f', hf', e'⟩ := acceptRequest_eq q (s.setSub r)
  obtain rfl : f' = f := Option.some.inj (hf'.symm.trans hf)
  rw [e, e']
  exact .next (s.startTrain _ f').callSink r

theorem sendRequest_sameButSub (q : Request) : SameButSub (sendRequest q s) (sendRequest q (s.setSub r)) := by
  unfold sendRequest
  rw [State.setSub_phase]
  cases s.phase
  case busy => exact .next s r
  case ready => exact .ite _ (acceptRequest_sameButSub s r q) (.next (s.raiseOutcome .rateLimited) r)

theorem setSub_nextSlot : (s.setSub r).nextSlot = s.nextSlot.setSub r := by
  unfold State.nextSlot
  rw [State.setSub_fLat, State.setSub_k]
  cases dur? s.fLat (s.k + 1) <;> rfl

theorem setSub_tickTimer : (s.setSub r).tickTimer = s.tickTimer.setSub r := by
  unfold State.tickTimer
  rw [setSub_nextSlot, apply_ite (State.setSub · r), apply_ite (State.setSub · r)]
  rfl

theorem execTick_sameButSub : SameButSub (execTick s) (execTick (s.setSub r)) := by
  unfold execTick
  exact setSub_tickTimer s r ▸ .next _ r

theorem finishSend_sameButSub : SameButSub (finishSend s) (finishSend (s.setSub r)) :=
  .ite _ (.next s r) <| .ite _ (.fault _) <| .ite _ (.next s.commitSend r) (.next (s.raiseOutcome .txFailed) r)

theorem setSub_advance : (s.setSub r).advance = s.advance.setSub r := by
  unfold State.advance
  rw [State.setSub_later]
  split <;> rfl

/-! ### Every operation, and the step -/

theorem exec_sameButSub (i : Instr) : SameButSub (exec i s) (exec i (s.setSub r)) := by
  cases i
  case sendOn t m f => exact sendRequest_sameButSub s r ⟨t, true, m, f⟩
  case sendOff t m f => exact sendRequest_sameButSub s r ⟨t, false, m, f⟩
  case outcomeOk | outcomeRateLimited | outcomeTxFailed => exact .next _ r
  case dur f k => exact execDur_sameButSub s r f k
  case start c => exact .ite _ (startCommand_sameButSub s r c) (.fault _)
  case tick => exact execTick_sameButSub s r
  case finish => exact finishSend_sameButSub s r
  case accept w => exact .ite _ (acceptRequest_sameButSub s r _) (.fault _)
  case reject => exact .ite _ (.next (s.raiseOutcome .rateLimited) r) (.fault _)
  case transmit => exact .ite _ (.next s.callSink r) (.fault _)
  case fail => exact .ite _ (.next (s.raiseOutcome .txFailed) r) (.fault _)
  case commit => exact .ite _ (.next s.commitSend r) (.fault _)
  case reset => exact .next s.resetBlock .none
  case maptemp | mapmode | mapfan | tempnib | frameBuild => exact ofTable_sameButSub s r _
  all_goals exact .setSub s r _

theorem step_sameButSub : SameButSub (step s) (step (s.setSub r)) := by
  have hsel : (s.setSub r).select = s.select := rfl
  cases hs : s.select with
  | idle =>
    rw [step_of_idle hs, step_of_idle (hsel.trans hs)]
    exact setSub_advance s.clearEvents r ▸ .next _ r
  | reject why =>
    rw [step_of_reject hs, step_of_reject (hsel.trans hs)]
    exact .refused _
  | run i =>
    have he := exec_sameButSub s.clearEvents r i
    generalize hx : exec i s.clearEvents = x, hy : exec i (s.clearEvents.setSub r) = y at he
    cases he with
    | next t v =>
      rw [step_of_exec hs hx, step_of_exec (hsel.trans hs) hy, setSub_advance]
      exact .next _ v
    | fault f =>
      rw [step_of_exec_fault hs hx, step_of_exec_fault (hsel.trans hs) hy]
      exact .fault f
    | refused w =>
      rw [step_of_exec_refused hs hx, step_of_exec_refused (hsel.trans hs) hy]
      exact .refused w

end

/-- Settles O56: each clause is one kind of outcome. -/
theorem resultFieldIsReadByNothing : Obligations.ResultFieldIsReadByNothing := by
  unfold Obligations.ResultFieldIsReadByNothing
  intro s r
  have h : SameButSub (step s) (step { s with sub := r }) := step_sameButSub s r
  generalize step s = a, step { s with sub := r } = b at h ⊢
  cases h with
  | next t v => exact ⟨by rintro _ ⟨⟩; exact ⟨v, rfl⟩, by rintro _ ⟨⟩, by rintro _ ⟨⟩⟩
  | fault f => exact ⟨by rintro _ ⟨⟩, fun _ e => e, by rintro _ ⟨⟩⟩
  | refused x => exact ⟨by rintro _ ⟨⟩, by rintro _ ⟨⟩, fun _ e => e⟩

end Sys2Proof.Machine

/-! SUPPORT. The Nibble Mapper is the tables written out in `Spec` (20_memory.md R51 to R53; 41_nibble_frame.md R130 to
R134), and each nibble row of the frame completes with its table's entry. -/

namespace Sys2Proof.Machine

/-! ### The mapper's tables -/

theorem mapFan_eq (f : Fan) : mapFan f = some (Spec.fanNibble f) := by cases f <;> rfl

theorem mapMode_eq (m : Mode) : mapMode m = some (Spec.modeNibble m) := by cases m <;> rfl

theorem mapState_eq (power : Bool) : mapState power = Spec.stateNibble power := rfl

theorem mapTemp_of_canonical {t : Temp} (h : t.canonical = true) : mapTemp t = some (Spec.tempNibble t) := by
  revert t; decide

/-- With power on the temperature nibble is the table's (R134). -/
theorem tempNibble_on_of_canonical {t : Temp} (h : t.canonical = true) :
    tempNibble true t = some (Spec.tempNibble t) := mapTemp_of_canonical h

/-- With power off it is the sentinel, whatever the temperature (R134). -/
theorem tempNibble_off (t : Temp) : tempNibble false t = some 0b1110 := rfl

/-! ### The rows of each field -/

section
variable (s : State)

theorem nibbleRow_some (field : NibbleField) (n : Nibble) :
    nibbleRow field (some n) s = .next { s with sub := .fieldNibble field n } := rfl

theorem nibbleRow_fan (f : Fan) :
    nibbleRow .fan (mapFan f) s = .next { s with sub := .fieldNibble .fan (Spec.fanNibble f) } := by
  rw [mapFan_eq, nibbleRow_some]

theorem nibbleRow_state (power : Bool) :
    nibbleRow .state (some (mapState power)) s
      = .next { s with sub := .fieldNibble .state (Spec.stateNibble power) } := by
  rw [mapState_eq, nibbleRow_some]

theorem nibbleRow_mode (m : Mode) :
    nibbleRow .mode (mapMode m) s = .next { s with sub := .fieldNibble .mode (Spec.modeNibble m) } := by
  rw [mapMode_eq, nibbleRow_some]

theorem nibbleRow_temp_on {t : Temp} (h : t.canonical = true) :
    nibbleRow .temp (tempNibble true t) s = .next { s with sub := .fieldNibble .temp (Spec.tempNibble t) } := by
  rw [tempNibble_on_of_canonical h, nibbleRow_some]

theorem nibbleRow_temp_off (t : Temp) :
    nibbleRow .temp (tempNibble false t) s = .next { s with sub := .fieldNibble .temp 0b1110 } := by
  rw [tempNibble_off, nibbleRow_some]

end

/-- Settles O8: each row is its field's row at one entry of the field's table. -/
theorem frameNibbleRows : Obligations.FrameNibbleRows := by
  unfold Obligations.FrameNibbleRows
  intro s
  have temp (t : Temp) (h : t.canonical = true) := nibbleRow_temp_on s h
  exact ⟨nibbleRow_fan s .auto, nibbleRow_fan s .low, nibbleRow_fan s .medium, nibbleRow_fan s .high,
    nibbleRow_state s true, nibbleRow_state s false,
    nibbleRow_mode s .cool, nibbleRow_mode s .heat, nibbleRow_mode s .auto, nibbleRow_mode s .fan,
    nibbleRow_mode s .dry,
    temp 17 rfl, temp 18 rfl, temp 19 rfl, temp 20 rfl, temp 21 rfl, temp 22 rfl, temp 23 rfl,
    temp 24 rfl, temp 25 rfl, temp 26 rfl, temp 27 rfl, temp 28 rfl, temp 29 rfl, temp 30 rfl,
    nibbleRow_temp_off s s.st.temp⟩

end Sys2Proof.Machine

/-! SUPPORT. Encoding (30_encoding.md R81 to R85, R90): the decoder undoes the encoder on every row that has a word, and
every 16-bit word is the word of its SEND. -/

namespace Sys2Proof

/-- No row needs to be well formed for this: a FRAME row keeps its four nibbles whether or not the block generates
them. -/
theorem decode_of_encode {i : Instr} {c : Code} (h : encode i = some c) : decode c = .ok i := by
  cases i
  case sendOn t m f => exact Laws.Encoding.sendOn t m f rfl c h
  case sendOff t m f => exact Laws.Encoding.sendOff t m f rfl c h
  case fantokKeep4to7 low => exact Laws.Encoding.fantokKeep4to7 low rfl c h
  case fantokKeep8to15 low => exact Laws.Encoding.fantokKeep8to15 low rfl c h
  case frame fan state temp mode =>
    cases h
    simp [decode, decodeFrameWord]
  -- The other rows have no operand and one word, which is a literal; the SUBOP rows have no word.
  all_goals cases h <;> rfl

/-- Settles O2: the decoder undoes the encoder on every instruction, so on the well-formed ones. -/
theorem decodeOfEncodeIsIdentity : Obligations.DecodeOfEncodeIsIdentity := by
  unfold Obligations.DecodeOfEncodeIsIdentity
  intro i c _ h
  exact decode_of_encode h

/-- Settles O3: both instructions are what their common code decodes to. -/
theorem encodingsAreDistinct : Obligations.EncodingsAreDistinct := by
  unfold Obligations.EncodingsAreDistinct
  intro i j c hi hj
  exact Except.ok.inj ((decode_of_encode hi).symm.trans (decode_of_encode hj))

/-! ### Request words -/

theorem decodeRequest_on {w : BitVec 16} (h : w.getLsbD 7 = true) :
    decodeRequest w = .sendOn (w.extractLsb' 8 8) (w.extractLsb' 4 3) (w.extractLsb' 0 4) := by
  simp only [decodeRequest, splitRequest, h, if_true]

theorem decodeRequest_off {w : BitVec 16} (h : w.getLsbD 7 = false) :
    decodeRequest w = .sendOff (w.extractLsb' 8 8) (w.extractLsb' 4 3) (w.extractLsb' 0 4) := by
  simp only [decodeRequest, splitRequest, h, Bool.false_eq_true, if_false]

/-- The SEND of a request word has that word: the decoder drops no bit (R81). -/
theorem encode_decodeRequest (w : BitVec 16) : encode (decodeRequest w) = some (.req w) := by
  have h : encode (decodeRequest w) = some (.req (packRequest (splitRequest w))) := by
    unfold decodeRequest
    generalize splitRequest w = r
    obtain ⟨t, p, m, f⟩ := r
    cases p <;> rfl
  rw [h, packRequest_splitRequest]

/-- Settles O1: bit 7 says which SEND the word is, and that SEND has the word. -/
theorem requestWordsDecodeAndEncodeBack : Obligations.RequestWordsDecodeAndEncodeBack := by
  unfold Obligations.RequestWordsDecodeAndEncodeBack
  intro w on off
  constructor
  · intro h
    have hon : decodeRequest w = on := decodeRequest_on h
    exact ⟨congrArg Except.ok hon, hon ▸ encode_decodeRequest w⟩
  · intro h
    have hoff : decodeRequest w = off := decodeRequest_off h
    exact ⟨congrArg Except.ok hoff, hoff ▸ encode_decodeRequest w⟩

/-- Settles O4: each word is run through the decoder. -/
theorem specWordsDecode : Obligations.SpecWordsDecode := by
  unfold Obligations.SpecWordsDecode
  exact ⟨rfl, rfl, rfl, rfl, rfl, rfl, rfl, rfl, rfl, rfl, rfl, rfl, rfl, rfl⟩

/-! ### 16-bit table words -/

theorem decodeExact_req (w : BitVec 16) : decodeExact (.req w) = some (decodeRequest w) := by
  simp [decodeExact, decode, encode_decodeRequest]

/-- The request format comes first in its width and accepts every word, so a 16-bit table word is its SEND (R90). -/
theorem decodeTableWord_sixteen {w : Nat} {i : Instr} (h : decodeTableWord 16 w = some i) :
    i = decodeRequest (BitVec.ofNat 16 w) := by
  unfold decodeTableWord at h
  split at h
  · simpa [codesOfWidth, decodeExact_req] using h.symm
  · cases h

end Sys2Proof

namespace Sys2Proof.Machine

/-- With one request word presented and nothing beside it, the step runs its SEND in either phase. -/
theorem select_withFetchWord (s : State) (w : Nat) :
    (s.withFetchWord 16 w).select = .run (decodeRequest (BitVec.ofNat 16 w)) := by
  unfold State.select State.withFetchWord
  cases s.phase <;> rfl

/-- Settles O45: the step runs the SEND of the word, which is what the word decodes to. -/
theorem withFetchWordRunsTheWord : Obligations.WithFetchWordRunsTheWord := by
  unfold Obligations.WithFetchWordRunsTheWord
  intro s t w i hi h
  have hs := select_withFetchWord s w
  rw [← decodeTableWord_sixteen hi] at hs
  exact step_of_exec hs h

end Sys2Proof.Machine

/-! SUPPORT. The rows of the token formats and of the wire symbols (30_encoding.md R82, R83, R85;
40_normalize.md R112). -/

namespace Sys2Proof.Machine

section
variable (s : State)

theorem modeTokenRow_recognized {tok : BitVec 3} {m : Mode} (h : modeOfToken tok = some m) :
    modeTokenRow tok s = .next { s with sub := .mode m } := by
  simp [modeTokenRow, fallbackMode, h, State.setSub]

theorem modeTokenRow_unrecognized {tok : BitVec 3} (h : modeOfToken tok = none) :
    modeTokenRow tok s = .next { s with sub := .mode s.st.mode } := by
  simp [modeTokenRow, fallbackMode, h, State.setSub]

theorem fanTokenRow_recognized {tok : BitVec 4} {f : Fan} (h : fanOfToken tok = some f) :
    fanTokenRow tok s = .next { s with sub := .fan f } := by
  simp [fanTokenRow, fallbackFan, h, State.setSub]

theorem fanTokenRow_unrecognized {tok : BitVec 4} (h : fanOfToken tok = none) :
    fanTokenRow tok s = .next { s with sub := .fan s.st.fan } := by
  simp [fanTokenRow, fallbackFan, h, State.setSub]

theorem symbolRow_eq (mark space : Option Nat) :
    symbolRow mark space s = .next { s with sub := .symbol mark space } := rfl

end

theorem fanOfToken_four_to_seven (low : BitVec 2) : fanOfToken (0b0100 ||| low.setWidth 4) = none := by
  revert low; decide

theorem fanOfToken_eight_to_fifteen (low : BitVec 3) : fanOfToken (0b1000 ||| low.setWidth 4) = none := by
  revert low; decide

/-- Settles O5: tokens 0 to 4 are recognized, 5 to 7 are not. -/
theorem modeTokenRowsGiveTheResultMode : Obligations.ModeTokenRowsGiveTheResultMode := by
  unfold Obligations.ModeTokenRowsGiveTheResultMode
  intro s
  have own {tok m} (h : modeOfToken tok = some m) := modeTokenRow_recognized s h
  have stored {tok} (h : modeOfToken tok = none) := modeTokenRow_unrecognized s h
  exact ⟨own rfl, own rfl, own rfl, own rfl, own rfl, stored rfl, stored rfl, stored rfl⟩

/-- Settles O6: tokens 0 to 3 are recognized, 4 to 15 are not. -/
theorem fanTokenRowsGiveTheResultFan : Obligations.FanTokenRowsGiveTheResultFan := by
  unfold Obligations.FanTokenRowsGiveTheResultFan
  intro s low2 low3
  have own {tok f} (h : fanOfToken tok = some f) := fanTokenRow_recognized s h
  have stored {tok} (h : fanOfToken tok = none) := fanTokenRow_unrecognized s h
  exact ⟨own rfl, own rfl, own rfl, own rfl,
    stored (fanOfToken_four_to_seven low2), stored (fanOfToken_eight_to_fifteen low3)⟩

/-- Settles O9: each row is the symbol row of its two durations. -/
theorem wireSymbolRows : Obligations.WireSymbolRows := by
  unfold Obligations.WireSymbolRows
  intro s
  exact ⟨symbolRow_eq s _ _, symbolRow_eq s _ _, symbolRow_eq s _ _, symbolRow_eq s _ _, symbolRow_eq s _ _⟩

end Sys2Proof.Machine

/-! SUPPORT. Frames both ways (30_encoding.md R84, R94; 41_nibble_frame.md R135): which frames R94's decoder answers,
the frame of a canonical command, and what the decoder says of it. -/

namespace Sys2Proof.Machine

/-! ### The inverted tables -/

@[simp] theorem fanOfNibble_fanNibble (f : Fan) : fanOfNibble (Spec.fanNibble f) = some f := by cases f <;> rfl

@[simp] theorem modeOfNibble_modeNibble (m : Mode) : modeOfNibble (Spec.modeNibble m) = some m := by cases m <;> rfl

theorem tempOfNibble_tempNibble {t : Temp} (h : t.canonical = true) : tempOfNibble (Spec.tempNibble t) = some t := by
  revert t; decide

theorem nibOn_ne_nibOff : nibOn ≠ nibOff := by decide

section
variable {fan state temp mode n : Nibble}

theorem fanOfNibble_isSome_iff :
    (fanOfNibble n).isSome = true ↔ n = 0b1011 ∨ n = 0b1001 ∨ n = 0b0101 ∨ n = 0b0011 := by
  revert n; decide

theorem modeOfNibble_isSome_iff :
    (modeOfNibble n).isSome = true ↔ n = 0b0000 ∨ n = 0b1100 ∨ n = 0b1000 ∨ n = 0b0100 ∨ n = 0b0010 := by
  revert n; decide

theorem tempOfNibble_isSome_iff : (tempOfNibble n).isSome = true ↔ n ≠ 0b1110 ∧ n ≠ 0b1111 := by
  revert n; decide

/-! ### The frame decoder -/

theorem frameOfNibbles_eq (fan state temp mode : Nibble) :
    frameOfNibbles fan state temp mode = { byte0 := 0xB2, byte1 := fan ++ state, byte2 := temp ++ mode } := by
  simp [frameOfNibbles, packNibbles_eq_append, magic]

/-- What R94's decoder answers, nibble by nibble: with power on a temperature, with power off none. -/
theorem decodeFrame_eq_some_iff {v : FrameView} :
    decodeFrame { byte0 := 0xB2, byte1 := fan ++ state, byte2 := temp ++ mode } = some v ↔
      ∃ f m, fanOfNibble fan = some f ∧ modeOfNibble mode = some m
        ∧ ((state = nibOn ∧ ∃ t, tempOfNibble temp = some t ∧ v = ⟨true, some t, m, f⟩)
          ∨ (state = nibOff ∧ temp = nibTempOff ∧ v = ⟨false, none, m, f⟩)) := by
  unfold decodeFrame
  rw [if_neg (by simp [magic])]
  dsimp only
  rw [BitVec.extractLsb'_append_eq_left, BitVec.extractLsb'_append_eq_right, BitVec.extractLsb'_append_eq_left,
    BitVec.extractLsb'_append_eq_right]
  cases fanOfNibble fan with
  | none => simp
  | some f =>
    cases modeOfNibble mode with
    | none => simp
    | some m =>
      dsimp only
      by_cases hon : state = nibOn
      · subst hon
        rw [if_pos rfl]
        cases tempOfNibble temp <;> simp [nibOn_ne_nibOff, eq_comm (b := v)]
      · simp [hon, and_assoc, eq_comm (b := v)]

theorem decodeFrame_isSome_iff :
    (decodeFrame { byte0 := 0xB2, byte1 := fan ++ state, byte2 := temp ++ mode }).isSome = true ↔
      (fanOfNibble fan).isSome = true ∧ (modeOfNibble mode).isSome = true
        ∧ ((state = nibOn ∧ (tempOfNibble temp).isSome = true) ∨ (state = nibOff ∧ temp = nibTempOff)) := by
  simp only [Option.isSome_iff_exists, decodeFrame_eq_some_iff]
  constructor
  · rintro ⟨v, f, m, hf, hm, ⟨hs, t, ht, -⟩ | ⟨hs, ht, -⟩⟩
    · exact ⟨⟨f, hf⟩, ⟨m, hm⟩, .inl ⟨hs, t, ht⟩⟩
    · exact ⟨⟨f, hf⟩, ⟨m, hm⟩, .inr ⟨hs, ht⟩⟩
  · rintro ⟨⟨f, hf⟩, ⟨m, hm⟩, ⟨hs, t, ht⟩ | ⟨hs, ht⟩⟩
    · exact ⟨_, f, m, hf, hm, .inl ⟨hs, t, ht, rfl⟩⟩
    · exact ⟨_, f, m, hf, hm, .inr ⟨hs, ht, rfl⟩⟩

/-- The nibbles the block generates are those in the ranges of the tables, with the override of R134. -/
theorem frameNibblesGenerated_iff :
    frameNibblesGenerated fan state temp mode = true ↔
      (fanOfNibble fan).isSome = true ∧ (modeOfNibble mode).isSome = true
        ∧ ((state = nibOn ∧ (tempOfNibble temp).isSome = true) ∨ (state = nibOff ∧ temp = nibTempOff)) := by
  simp [frameNibblesGenerated, nibOn, nibOff, nibTempOff, fanOfNibble_isSome_iff, modeOfNibble_isSome_iff,
    tempOfNibble_isSome_iff, or_assoc, and_assoc]

end

theorem exec_frame (s : State) (fan state temp mode : Nibble) :
    exec (.frame fan state temp mode) s = .next (s.setSub (.frameWord (frameOfNibbles fan state temp mode)
      (decodeFrame (frameOfNibbles fan state temp mode)))) := rfl

/-- Settles O7: the decoder answers exactly when each nibble stands in its table, which is what generated means. -/
theorem frameWordRowBuildsTheThreeBytes : Obligations.FrameWordRowBuildsTheThreeBytes := by
  unfold Obligations.FrameWordRowBuildsTheThreeBytes
  intro s fan state temp mode f
  constructor
  · rw [exec_frame, frameOfNibbles_eq, State.setSub]
  · rw [decodeFrame_isSome_iff, frameNibblesGenerated_iff]

/-! ### The frame of a canonical command -/

/-- What a frame tells of the command it was built from (R94). -/
def frameView (c : Command) : FrameView :=
  { power := c.power, temp := if c.power then some c.temp else none, mode := c.mode, fan := c.fan }

section
variable {c d : Command}

theorem frameView_eq_iff :
    frameView c = frameView d ↔
      c.power = d.power ∧ c.mode = d.mode ∧ c.fan = d.fan ∧ (c.power = true → c.temp = d.temp) := by
  obtain ⟨p, t, m, f⟩ := c
  obtain ⟨p', t', m', f'⟩ := d
  cases p <;> cases p' <;> simp [frameView, and_assoc, and_comm, and_left_comm]

/-- FRAME of a canonical command is the frame written out from the spec's tables (R135). -/
theorem frameOf_eq_frame (h : c.canonical = true) : frameOf c = some (Spec.frame c) := by
  obtain ⟨power, t, m, f⟩ := c
  have ht : tempNibble power t = some (if power then Spec.tempNibble t else 0xE) := by
    cases power
    case true => exact tempNibble_on_of_canonical h
    case false => exact tempNibble_off t
  simp only [frameOf, mapFan_eq, mapMode_eq, ht, mapState_eq, frameOfNibbles_eq, Spec.frame]

theorem decodeFrame_frame (h : c.canonical = true) : decodeFrame (Spec.frame c) = some (frameView c) := by
  obtain ⟨power, t, m, f⟩ := c
  refine decodeFrame_eq_some_iff.mpr ⟨f, m, fanOfNibble_fanNibble f, modeOfNibble_modeNibble m, ?_⟩
  cases power
  case true => exact .inl ⟨rfl, t, tempOfNibble_tempNibble h, rfl⟩
  case false => exact .inr ⟨rfl, rfl, rfl⟩

/-- A frame is built from what it tells: with power off the temperature does not enter it (R134). -/
theorem frame_eq_of_frameView_eq (h : frameView c = frameView d) : Spec.frame c = Spec.frame d := by
  obtain ⟨p, t, m, f⟩ := c
  obtain ⟨p', t', m', f'⟩ := d
  obtain ⟨hp, hm, hf, ht⟩ := frameView_eq_iff.mp h
  dsimp only at hp hm hf ht
  subst hp hm hf
  cases p
  case true => rw [ht rfl]
  case false => rfl

theorem frame_eq_iff (hc : c.canonical = true) (hd : d.canonical = true) :
    Spec.frame c = Spec.frame d ↔ frameView c = frameView d := by
  constructor
  · intro h
    have hview := congrArg decodeFrame h
    rw [decodeFrame_frame hc, decodeFrame_frame hd] at hview
    exact Option.some.inj hview
  · exact frame_eq_of_frameView_eq

end

/-- Settles O16: each nibble of the frame is its table's entry, which the decoder inverts. -/
theorem frameDecodesBack : Obligations.FrameDecodesBack := by
  unfold Obligations.FrameDecodesBack
  intro c h
  exact decodeFrame_frame h

/-- Settles O17: two canonical commands share a frame exactly when their frames tell the same. -/
theorem frameInjective : Obligations.FrameInjective := by
  unfold Obligations.FrameInjective
  intro c d hc hd
  rw [frameOf_eq_frame hc, frameOf_eq_frame hd, Option.some_inj, frame_eq_iff hc hd, frameView_eq_iff]

end Sys2Proof.Machine

/-! SUPPORT. A canonical command as a request, and the confirmation word (30_encoding.md R87; 40_normalize.md R114). -/

namespace Sys2Proof.Machine

/-- The request that asks for a command: its temperature as the 8-bit field, its storage codes as tokens (R22, R114). -/
def requestOf (c : Command) : Request :=
  { temperature := c.temp.setWidth 8, power := c.power, modeTok := modeCode c.mode,
    fanTok := (fanCode c.fan).setWidth 4 }

theorem clampTemp_of_canonical {t : Temp} (h : t.canonical = true) : clampTemp (t.setWidth 8).toInt = t := by
  revert t; decide

@[simp] theorem fallbackMode_modeCode (m stored : Mode) : fallbackMode (modeCode m) stored = m := by cases m <;> rfl

@[simp] theorem fallbackFan_fanCode (f stored : Fan) : fallbackFan ((fanCode f).setWidth 4) stored = f := by
  cases f <;> rfl

theorem normalizeRequest_requestOf {c : Command} (h : c.canonical = true) (st : Command) :
    normalizeRequest (requestOf c) st = c := by
  obtain ⟨p, t, m, f⟩ := c
  simp only [normalizeRequest, requestOf, clampTemp_of_canonical h, fallbackMode_modeCode, fallbackFan_fanCode]

theorem confirmationOf_word (c : Command) (t1 : Time) : (confirmationOf c t1).word = packRequest (requestOf c) := rfl

/-- Bit 15 of a request word is the sign of its temperature (R81). -/
theorem packRequest_sign (r : Request) : (packRequest r).getLsbD 15 = r.temperature.getLsbD 7 := by
  rw [← packRequest_temperature r, BitVec.getLsbD_extractLsb']
  rfl

/-- Settles O55: the confirmation word is the request word of the committed command. -/
theorem confirmationWordIsTheCommittedCommand : Obligations.ConfirmationWordIsTheCommittedCommand := by
  unfold Obligations.ConfirmationWordIsTheCommittedCommand
  intro c st t1 h w
  have hw : w = packRequest (requestOf c) := confirmationOf_word c t1
  rw [hw, packRequest_temperature, packRequest_sign, packRequest_power, packRequest_modeTok, packRequest_fanTok,
    splitRequest_packRequest, normalizeRequest_requestOf h]
  refine ⟨?_, ?_, rfl, rfl, ?_, rfl, rfl⟩
  · exact BitVec.toNat_setWidth_of_le (by decide)
  · simp [requestOf]
  · exact BitVec.toNat_setWidth_of_le (by decide)

end Sys2Proof.Machine

/-! SUPPORT. When a step stops with nothing on the evaluation port: only on an answer before the end of the train
(30_encoding.md R91, 42_pulse_train.md R164, log 9). -/

namespace Sys2Proof.Machine

section
variable {s : State}

theorem finishSend_early (hb : s.phase = .busy) (ha : s.answered = true) (hk : s.k < trainLen) :
    finishSend s = .fault .sinkAnswerEarly := by
  simp [finishSend, hb, ha, hk]

theorem step_answered_early (hb : s.phase = .busy) (hr : s.ports.rst = false) (ha : s.answered = true)
    (hk : s.k < trainLen) : step s = .fault .sinkAnswerEarly :=
  step_of_exec_fault (i := .finish) (by simp [State.select, hr, hb, ha])
    (finishSend_early (s := s.clearEvents) hb ha hk)

/-- In READY a request, a tick and an idle step all complete. -/
theorem step_ready_next (hp : s.phase = .ready) (hr : s.ports.rst = false) (hn : s.ports.probe = none) :
    ∃ s', step s = .next s' := by
  cases hv : s.ports.reqValid
  case true =>
    obtain ⟨t, ht⟩ := sendRequest_next (splitRequest s.ports.req) s.clearEvents
    exact ⟨_, step_of_request hp ⟨hr, hv, rfl⟩ ht⟩
  case false =>
    cases ht : s.ports.tick
    case true => exact ⟨_, step_of_exec (i := .tick) (by simp [State.select, hr, hp, hv, ht]) rfl⟩
    case false => exact ⟨_, step_of_idle (by simp [State.select, hr, hp, hv, ht, selectProbe, hn])⟩

end

/-- Settles O48: reset and READY steps complete; in BUSY a step without an answer does, and one with an answer does
unless the train is still in flight. The invariant is not needed: a request's frame exists whatever is stored. -/
theorem onlyAnEarlyAnswerStopsTheBlock : Obligations.OnlyAnEarlyAnswerStopsTheBlock := by
  unfold Obligations.OnlyAnEarlyAnswerStopsTheBlock
  intro s _ hn
  cases hr : s.ports.rst
  case true => exact .inl ⟨_, step_of_exec (i := .reset) (by simp [State.select, hr]) rfl⟩
  case false =>
    cases hp : s.phase
    case ready => exact .inl (step_ready_next hp hr hn)
    case busy =>
      cases ha : s.answered
      case false => exact .inl ⟨_, step_quiet hp (quiet_iff.mpr ⟨hr, ha⟩) hn⟩
      case true =>
        by_cases hk : s.k < trainLen
        · exact .inr ⟨step_answered_early hp hr ha hk, rfl, rfl, hk, answered_iff_answer.mp ha⟩
        · exact .inl ⟨_, step_answered hp hr ha (Nat.le_of_not_lt hk)⟩

end Sys2Proof.Machine

/-! SUPPORT. The Command Normalizer: the three ranges of CLAMP, what recognized and unrecognized tokens give, and the
command of a request (40_normalize.md R110 to R114). -/

namespace Sys2Proof.Machine

/-! ### CLAMP -/

section
variable {t : Int}

theorem clampTemp_eq_iff (v : Temp) : clampTemp t = v ↔ max 17 (min 30 t) = v.toNat := by
  rw [← toNat_clampTemp, Nat.cast_inj, BitVec.toNat_inj]

theorem clampTemp_of_lt (h : t < 17) : clampTemp t = 17 :=
  (clampTemp_eq_iff 17).mpr (max_eq_left ((min_le_right 30 t).trans h.le))

theorem clampTemp_of_gt (h : 30 < t) : clampTemp t = 30 :=
  (clampTemp_eq_iff 30).mpr (by rw [min_eq_left h.le]; rfl)

theorem toNat_clampTemp_of_mem (hlo : 17 ≤ t) (hhi : t ≤ 30) : ((clampTemp t).toNat : Int) = t := by
  rw [toNat_clampTemp, min_eq_right hhi, max_eq_right hlo]

end

/-- Settles O12: the value is CLAMP's, in each of its three ranges. -/
theorem clampIntoRange : Obligations.ClampIntoRange := by
  unfold Obligations.ClampIntoRange
  intro s t
  exact ⟨clampTemp t, rfl, clampTemp_of_lt, clampTemp_of_gt, toNat_clampTemp_of_mem⟩

/-! ### Tokens -/

section
variable {modeTok : BitVec 3} {fanTok : BitVec 4}

/-- The recognized mode tokens are the storage codes (R82). -/
theorem exists_modeCode_eq (h : modeTok.toNat < 5) : ∃ m, modeCode m = modeTok :=
  ⟨(modeOfToken modeTok).getD .cool, by revert modeTok; decide⟩

/-- The recognized fan tokens are the storage codes (R83). -/
theorem exists_fanCode_eq (h : fanTok.toNat < 4) : ∃ f, (fanCode f).setWidth 4 = fanTok :=
  ⟨(fanOfToken fanTok).getD .auto, by revert fanTok; decide⟩

theorem modeOfToken_of_le (h : 5 ≤ modeTok.toNat) : modeOfToken modeTok = none := by revert modeTok; decide

theorem fanOfToken_of_le (h : 4 ≤ fanTok.toNat) : fanOfToken fanTok = none := by revert fanTok; decide

theorem modeCode_fallbackMode (h : modeTok.toNat < 5) (stored : Mode) :
    modeCode (fallbackMode modeTok stored) = modeTok := by
  obtain ⟨m, rfl⟩ := exists_modeCode_eq h
  rw [fallbackMode_modeCode]

theorem fallbackMode_of_le (h : 5 ≤ modeTok.toNat) (stored : Mode) : fallbackMode modeTok stored = stored := by
  rw [fallbackMode, modeOfToken_of_le h, Option.getD_none]

theorem toNat_fanCode_fallbackFan (h : fanTok.toNat < 4) (stored : Fan) :
    (fanCode (fallbackFan fanTok stored)).toNat = fanTok.toNat := by
  obtain ⟨f, rfl⟩ := exists_fanCode_eq h
  rw [fallbackFan_fanCode, BitVec.toNat_setWidth_of_le (by decide)]

theorem fallbackFan_of_le (h : 4 ≤ fanTok.toNat) (stored : Fan) : fallbackFan fanTok stored = stored := by
  rw [fallbackFan, fanOfToken_of_le h, Option.getD_none]

end

/-- Settles O13: each field is its own fallback, on a recognized token and on an unrecognized one. -/
theorem tokenFallbackKeepsStoredFields : Obligations.TokenFallbackKeepsStoredFields := by
  unfold Obligations.TokenFallbackKeepsStoredFields
  intro s modeTok fanTok
  exact ⟨fallbackMode modeTok s.st.mode, fallbackFan fanTok s.st.fan, rfl,
    fun h => modeCode_fallbackMode h _, fun h => fallbackMode_of_le h _,
    fun h => toNat_fanCode_fallbackFan h _, fun h => fallbackFan_of_le h _⟩

/-! ### NORMALIZE -/

/-- The model's normalizer meets the specification written out in `Spec` (R110 to R112). -/
theorem normalized_normalizeRequest (r : Request) (st : Command) : Spec.Normalized r st (normalizeRequest r st) where
  power := rfl
  temp := toNat_clampTemp _
  mode := by
    have own (m : Mode) (h : r.modeTok = modeCode m) : fallbackMode r.modeTok st.mode = m :=
      h ▸ fallbackMode_modeCode m st.mode
    exact ⟨own .cool, own .heat, own .auto, own .fan, own .dry, fun h => fallbackMode_of_le h _⟩
  fan := by
    have own (f : Fan) (h : r.fanTok = (fanCode f).setWidth 4) : fallbackFan r.fanTok st.fan = f :=
      h ▸ fallbackFan_fanCode f st.fan
    exact ⟨own .auto, own .low, own .medium, own .high, fun h => fallbackFan_of_le h _⟩

/-- Settles O11: the command is the normalizer's on the four fields of the word. -/
theorem normalizeGivesTheCanonicalCommand : Obligations.NormalizeGivesTheCanonicalCommand := by
  unfold Obligations.NormalizeGivesTheCanonicalCommand
  intro s w
  exact ⟨normalizeRequest (splitRequest w) s.st, rfl, normalizeRequest_canonical _ _, normalized_normalizeRequest _ _⟩

/-- Settles O18: the request is the one that asks for the command. -/
theorem normalizeIdempotent : Obligations.NormalizeIdempotent := by
  unfold Obligations.NormalizeIdempotent
  intro c st h
  exact normalizeRequest_requestOf h st

end Sys2Proof.Machine

/-! SUPPORT. The mapper and the frame builder run alone (41_nibble_frame.md R130 to R135): each completes with the value
its table read gives, and stops by name where the read gives none (20_memory.md R56 b). -/

namespace Sys2Proof.Machine

section
variable (s : State)

theorem ofTable_some (v : SubResult) : ofTable (some v) s = .next { s with sub := v } := rfl

theorem ofTable_none : ofTable none s = .fault .tableIndex := rfl

theorem mapTemp_of_not_canonical {t : Temp} (h : t.canonical = false) : mapTemp t = none := by
  rw [← Option.not_isSome_iff_eq_none, mapTemp_isSome_iff, h]
  exact Bool.false_ne_true

/-! ### The mapper -/

theorem exec_maptemp (t : Temp) : exec (.maptemp t) s = ofTable ((mapTemp t).map .nibble) s := rfl

theorem exec_maptemp_of_canonical {t : Temp} (h : t.canonical = true) :
    exec (.maptemp t) s = .next { s with sub := .nibble (Spec.tempNibble t) } := by
  rw [exec_maptemp, mapTemp_of_canonical h, Option.map_some, ofTable_some]

theorem exec_maptemp_of_not_canonical {t : Temp} (h : t.canonical = false) :
    exec (.maptemp t) s = .fault .tableIndex := by
  rw [exec_maptemp, mapTemp_of_not_canonical h, Option.map_none, ofTable_none]

theorem exec_mapmode (m : Mode) : exec (.mapmode m) s = .next { s with sub := .nibble (Spec.modeNibble m) } := by
  change ofTable ((mapMode m).map .nibble) s = _
  rw [mapMode_eq, Option.map_some, ofTable_some]

theorem exec_mapfan (f : Fan) : exec (.mapfan f) s = .next { s with sub := .nibble (Spec.fanNibble f) } := by
  change ofTable ((mapFan f).map .nibble) s = _
  rw [mapFan_eq, Option.map_some, ofTable_some]

theorem exec_mapstate (power : Bool) :
    exec (.mapstate power) s = .next { s with sub := .nibble (Spec.stateNibble power) } := by
  rw [← mapState_eq]
  rfl

/-- With power on TEMPNIB is MAPTEMP, its stop included (R134). -/
theorem exec_tempnib_on (t : Temp) : exec (.tempnib true t) s = exec (.maptemp t) s := rfl

theorem exec_tempnib_off (t : Temp) : exec (.tempnib false t) s = .next { s with sub := .nibble 0b1110 } := by
  change ofTable ((tempNibble false t).map .nibble) s = _
  rw [tempNibble_off, Option.map_some, ofTable_some]

/-! ### The frame builder -/

theorem exec_frameBuild_of_canonical {c : Command} (h : c.canonical = true) :
    exec (.frameBuild c) s = .next { s with sub := .frame (Spec.frame c) } := by
  change ofTable ((frameOf c).map .frame) s = _
  rw [frameOf_eq_frame h, Option.map_some, ofTable_some]

end

/-- Settles O14: MAPTEMP on either side of the canonical range, and TEMPNIB by the power it is given. -/
theorem nibbleMapperReadsTheTables : Obligations.NibbleMapperReadsTheTables := by
  unfold Obligations.NibbleMapperReadsTheTables
  intro s temp mode fan power
  rw [exec_tempnib_on]
  exact ⟨exec_maptemp_of_canonical s, exec_maptemp_of_not_canonical s, exec_mapmode s mode, exec_mapfan s fan,
    exec_mapstate s power, exec_tempnib_off s temp, exec_maptemp_of_canonical s, exec_maptemp_of_not_canonical s⟩

/-- Settles O15: the four table reads of a canonical command all have a value, and FRAME puts them together. -/
theorem frameBuildGivesTheFrame : Obligations.FrameBuildGivesTheFrame := by
  unfold Obligations.FrameBuildGivesTheFrame
  intro s c h
  exact exec_frameBuild_of_canonical s h

end Sys2Proof.Machine

/-! SUPPORT. The envelope still to come: the waveform that the rest of a train in flight stands for, of which every tick
takes the first entry (42_pulse_train.md R155, R161 to R163, R166). -/

namespace Sys2Proof.Machine

/-! ### The waveform of the rest of a train -/

section
variable (u : Nat) (f : Frame) {k : Nat}

/-- A waveform has one entry for each tick of its durations. -/
theorem waveformFrom_length (mark : Bool) (ds : List Nat) : (waveformFrom mark u ds).length = u * ds.sum := by
  induction ds generalizing mark with
  | nil => rfl
  | cons d ds ih => simp [waveformFrom, ih, Nat.mul_add]

/-- A train lasts 330 U ticks, whatever its frame (R154, R158). -/
theorem waveform_length : (waveform u f).length = 330 * u := by
  rw [waveform, waveformFrom_length, trainOf_sum, Nat.mul_comm]

/-- The waveform from the beginning of slot `k` on; slot `k` is a mark when `k` is even (R155). -/
def waveformOfSlots (k : Nat) : List Bool := waveformFrom (decide (k % 2 = 0)) u ((trainOf f).drop k)

theorem waveformOfSlots_zero : waveformOfSlots u f 0 = waveform u f := rfl

theorem trainOf_getElem?_of_lt (h : k < trainLen) : (trainOf f)[k]? = some (slotDur f k) := by
  rw [← dur?_eq_getElem?, dur?, if_pos h]

theorem drop_trainOf_eq_cons (h : k < trainLen) :
    (trainOf f).drop k = slotDur f k :: (trainOf f).drop (k + 1) := by
  obtain ⟨hl, hk⟩ := List.getElem?_eq_some_iff.mp (trainOf_getElem?_of_lt f h)
  rw [List.drop_eq_getElem_cons hl, hk]

theorem not_decide_even (k : Nat) : (!decide (k % 2 = 0)) = decide ((k + 1) % 2 = 0) := by
  rw [← decide_not]
  exact decide_eq_decide.mpr (by omega)

/-- Slot `k` at its level, then the slots after it. -/
theorem waveformOfSlots_of_lt (h : k < trainLen) :
    waveformOfSlots u f k
      = List.replicate (u * slotDur f k) (decide (k % 2 = 0)) ++ waveformOfSlots u f (k + 1) := by
  rw [waveformOfSlots, drop_trainOf_eq_cons f h, waveformFrom, not_decide_even]
  rfl

theorem waveformOfSlots_of_le (h : trainLen ≤ k) : waveformOfSlots u f k = [] := by
  rw [waveformOfSlots, List.drop_of_length_le (by rwa [trainOf_length])]
  rfl

end

/-! ### The envelope of a train in flight -/

section
variable {s : State}

/-- What `env` will be, tick by tick, from a BUSY state on: the rest of the current slot, of which there is always one
tick (R163), and the slots after it. -/
def State.envLeft (s : State) : List Bool :=
  if s.k < trainLen then
    List.replicate (max 1 s.t) (decide (s.k % 2 = 0)) ++ waveformOfSlots s.cfg.u s.fLat (s.k + 1)
  else []

theorem envLeft_of_lt (h : s.k < trainLen) :
    s.envLeft
      = List.replicate (max 1 s.t) (decide (s.k % 2 = 0)) ++ waveformOfSlots s.cfg.u s.fLat (s.k + 1) := if_pos h

theorem envLeft_of_le (h : trainLen ≤ s.k) : s.envLeft = [] := if_neg h.not_gt

theorem envLeft_eq_nil_iff : s.envLeft = [] ↔ trainLen ≤ s.k := by
  refine ⟨fun h => ?_, envLeft_of_le⟩
  by_contra hk
  rw [envLeft_of_lt (by omega)] at h
  simp at h

/-- A slot that begins has all its ticks before it (R163). -/
theorem envLeft_of_slot_begin (hu : 0 < s.cfg.u) (ht : s.k < trainLen → s.t = s.cfg.u * slotDur s.fLat s.k) :
    s.envLeft = waveformOfSlots s.cfg.u s.fLat s.k := by
  by_cases hk : s.k < trainLen
  · have hpos : 1 ≤ s.cfg.u * slotDur s.fLat s.k := Nat.mul_pos hu (slotDur_pos _ _)
    rw [envLeft_of_lt hk, waveformOfSlots_of_lt _ _ hk, ht hk, Nat.max_eq_right hpos]
  · have hk := Nat.le_of_not_lt hk
    rw [envLeft_of_le hk, waveformOfSlots_of_le _ _ hk]

/-- START has the whole waveform before it (R162). -/
theorem envLeft_startTrain (hu : 0 < s.cfg.u) (c : Command) (f : Frame) :
    (s.startTrain c f).envLeft = waveform s.cfg.u f :=
  (envLeft_of_slot_begin (s := s.startTrain c f) hu fun _ => rfl).trans (waveformOfSlots_zero s.cfg.u f)

theorem envLeft_nextSlot (hu : 0 < s.cfg.u) :
    s.nextSlot.envLeft = waveformOfSlots s.cfg.u s.fLat (s.k + 1) := by
  rw [envLeft_of_slot_begin (by simpa using hu)]
  · simp
  · intro hk
    rw [State.nextSlot_k] at hk
    rw [State.nextSlot_t, if_pos hk]
    simp

/-- `env` is the next entry of the waveform (R161). -/
theorem head?_envLeft (hb : s.phase = .busy) (hk : s.k < trainLen) : s.envLeft.head? = some s.env := by
  obtain ⟨n, hn⟩ : ∃ n, max 1 s.t = n + 1 := ⟨max 1 s.t - 1, by omega⟩
  rw [envLeft_of_lt hk, hn, List.replicate_succ, List.cons_append, List.head?_cons]
  simp [State.env, hb, hk]

/-- A tick takes the first entry (R163). -/
theorem envLeft_tickTimer (hb : s.phase = .busy) (hu : 0 < s.cfg.u) : s.tickTimer.envLeft = s.envLeft.tail := by
  rcases tickTimer_cases s with ⟨hw, h⟩ | ⟨-, hk, ht, h⟩ | ⟨-, hk, ht, h⟩
  · have hk : trainLen ≤ s.k := hw.resolve_left (by simp [hb])
    rw [h, envLeft_of_le hk, List.tail_nil]
  · obtain ⟨n, hn⟩ : ∃ n, s.t = n + 1 + 1 := ⟨s.t - 2, by omega⟩
    rw [h, envLeft_of_lt hk, envLeft_of_lt (s := { s with t := s.t - 1 }) hk, hn]
    simp [List.replicate_succ]
  · rw [h, envLeft_nextSlot hu, envLeft_of_lt hk, Nat.max_eq_left ht]
    rfl

/-! ### Runs of ticks -/

theorem runTicks_eq_iterate (n : Nat) (s : State) : runTicks n s = .next (State.tickTimer^[n] s) := by
  induction n generalizing s with
  | zero => rfl
  | succ n ih => exact ih s.tickTimer

theorem envLeft_iterate (n : Nat) (hb : s.phase = .busy) (hu : 0 < s.cfg.u) :
    (State.tickTimer^[n] s).envLeft = s.envLeft.drop n := by
  induction n generalizing s with
  | zero => rfl
  | succ n ih =>
    rw [Function.iterate_succ_apply, ih (by simpa using hb) (by simpa using hu), envLeft_tickTimer hb hu,
      List.drop_tail]

/-- Where a train in flight stands: in a slot, or at rest after the last (R163). -/
def State.SlotOrRest (s : State) : Prop := s.k < trainLen ∨ (s.k = trainLen ∧ s.t = 0)

theorem slotOrRest_tickTimer (h : s.SlotOrRest) : s.tickTimer.SlotOrRest := by
  rcases tickTimer_cases s with ⟨-, e⟩ | ⟨-, hk, -, e⟩ | ⟨-, hk, -, e⟩ <;> rw [e]
  · exact h
  · exact .inl hk
  · by_cases hk' : s.k + 1 < trainLen
    · exact .inl (by rwa [State.nextSlot_k])
    · exact .inr ⟨by rw [State.nextSlot_k]; omega, by rw [State.nextSlot_t, if_neg hk']⟩

theorem slotOrRest_iterate (n : Nat) (h : s.SlotOrRest) : (State.tickTimer^[n] s).SlotOrRest :=
  Function.Iterate.rec State.SlotOrRest h (fun _ => slotOrRest_tickTimer) n

theorem nextSlot_frame (s : State) : s.nextSlot = { s with k := s.nextSlot.k, t := s.nextSlot.t } := by
  unfold State.nextSlot
  split <;> rfl

/-- A tick writes `k` and `t` alone (R163). -/
theorem tickTimer_frame (s : State) : ∃ k t, s.tickTimer = { s with k := k, t := t } := by
  rcases tickTimer_cases s with ⟨-, e⟩ | ⟨-, -, -, e⟩ | ⟨-, -, -, e⟩
  · exact ⟨s.k, s.t, e⟩
  · exact ⟨s.k, s.t - 1, e⟩
  · exact ⟨_, _, e.trans (nextSlot_frame s)⟩

theorem iterate_tickTimer_frame (n : Nat) (s : State) :
    ∃ k t, State.tickTimer^[n] s = { s with k := k, t := t } := by
  induction n generalizing s with
  | zero => exact ⟨s.k, s.t, rfl⟩
  | succ n ih =>
    obtain ⟨k₁, t₁, h₁⟩ := tickTimer_frame s
    obtain ⟨k, t, h⟩ := ih s.tickTimer
    exact ⟨k, t, h.trans (by rw [h₁])⟩

/-- While a waveform has an `n`-th entry, the state after `n` ticks is in a slot and drives that entry. -/
theorem iterate_tickTimer_env {n : Nat} (hb : s.phase = .busy) (hu : 0 < s.cfg.u) (hn : n < s.envLeft.length) :
    (State.tickTimer^[n] s).k < trainLen ∧ s.envLeft[n]? = some (State.tickTimer^[n] s).env := by
  have hleft := envLeft_iterate n hb hu
  have hk : (State.tickTimer^[n] s).k < trainLen := by
    by_contra hk
    rw [envLeft_of_le (Nat.le_of_not_lt hk)] at hleft
    exact hn.not_ge (List.drop_eq_nil_iff.mp hleft.symm)
  have hb' : (State.tickTimer^[n] s).phase = .busy := by
    obtain ⟨k, t, h⟩ := iterate_tickTimer_frame n s
    rw [h]
    exact hb
  exact ⟨hk, by rw [← List.head?_drop, ← hleft, head?_envLeft hb' hk]⟩

/-- After as many ticks as the waveform has entries the train is at rest, and nothing else has changed. -/
theorem iterate_tickTimer_rest (hb : s.phase = .busy) (hu : 0 < s.cfg.u) (hs : s.SlotOrRest) :
    State.tickTimer^[s.envLeft.length] s = { s with k := trainLen, t := 0 } := by
  have hleft := envLeft_iterate s.envLeft.length hb hu
  rw [List.drop_length, envLeft_eq_nil_iff] at hleft
  obtain ⟨hk, ht⟩ := (slotOrRest_iterate s.envLeft.length hs).resolve_left hleft.not_gt
  obtain ⟨k, t, h⟩ := iterate_tickTimer_frame s.envLeft.length s
  rw [h] at hk ht ⊢
  dsimp only at hk ht
  rw [hk, ht]

end

/-- START of a canonical command, whose frame exists: it latches both where it is enabled, and stops by name elsewhere
(R162, log 9). -/
theorem exec_start_of_canonical {c : Command} (hc : c.canonical = true) (s : State) :
    exec (.start c) s
      = if s.acceptEnabled then .next (s.startTrain c (Spec.frame c)) else .fault .notEnabled := by
  change execStart c s = _
  rw [execStart, startCommand, frameOf_eq_frame hc]

theorem startTrain_of_exec_start {s s₁ : State} {c : Command} (hc : c.canonical = true)
    (h : exec (.start c) s = .next s₁) : s₁ = s.startTrain c (Spec.frame c) := by
  rw [exec_start_of_canonical hc] at h
  split at h
  · cases h; rfl
  · cases h

/-- Settles O41: START has the whole waveform before it, and each tick takes the entry that `env` has been. -/
theorem envelopeIsTheTrain : Obligations.EnvelopeIsTheTrain := by
  unfold Obligations.EnvelopeIsTheTrain
  intro s s₁ c hc hu h
  obtain rfl := startTrain_of_exec_start hc h
  generalize Spec.frame c = f
  have hb : (s.startTrain c f).phase = .busy := rfl
  have hleft := envLeft_startTrain hu c f
  have hlen := waveform_length s.cfg.u f
  refine ⟨hlen, fun n hn => ?_, ?_⟩
  · have henv := iterate_tickTimer_env (n := n) hb hu (by rwa [hleft, hlen])
    rw [hleft] at henv
    exact ⟨_, runTicks_eq_iterate n _, henv⟩
  · have hrest := iterate_tickTimer_rest hb hu (.inl (by decide : 0 < trainLen))
    rw [hleft, hlen] at hrest
    exact ⟨_, runTicks_eq_iterate _ _, hrest, by rw [hrest]; simp [State.env]⟩

end Sys2Proof.Machine

/-! SUPPORT. The Pulse Train Encoder run alone (42_pulse_train.md R150 to R158): the entries of an encoded byte, the
marks and spaces of a train, and DUR. -/

namespace Sys2Proof.Machine

/-! ### Symbols, bytes and their composition -/

/-- Settles O19: each bit has its one symbol. -/
theorem symOfBit : Obligations.SymOfBit := by
  unfold Obligations.SymOfBit
  exact fun _ => ⟨rfl, rfl⟩

/-- Bit `i` in the order of sending, bit 7 first, is entries `2i` and `2i+1` of the byte (R151). -/
theorem encByte_getElem? (b : Byte) {i : Nat} (h : i < 8) :
    (encByte b)[2 * i]? = some bitMark
      ∧ (encByte b)[2 * i + 1]? = some (if b.getLsbD (7 - i) then oneSpace else zeroSpace) := by
  simp only [encByte, symDurations_eq]
  interval_cases i <;> exact ⟨rfl, rfl⟩

/-- Settles O20: the entries are those of ENCBYTE. -/
theorem encByteMostSignificantFirst : Obligations.EncByteMostSignificantFirst := by
  unfold Obligations.EncByteMostSignificantFirst
  exact fun s b => ⟨encByte b, rfl, encByte_length b, fun _ h => encByte_getElem? b h⟩

/-- Settles O21: each bit and its complement last 6 units together, so the eight of them 48. -/
theorem encPairComplementRedundancy : Obligations.EncPairComplementRedundancy := by
  unfold Obligations.EncPairComplementRedundancy
  exact fun s b => ⟨encByte b, encByte (~~~b), rfl, rfl, rfl, encPair_sum b⟩

/-- Settles O22: each row is its composition. -/
theorem repetitionAndTrain : Obligations.RepetitionAndTrain := by
  unfold Obligations.RepetitionAndTrain
  exact fun _ _ => ⟨rfl, rfl⟩

/-! ### The shape of a train -/

section
variable (f : Frame) {k : Nat}

theorem trainOf_mem {d : Nat} (h : d ∈ trainOf f) : d = 1 ∨ d = 3 ∨ d = 8 := by
  rw [← map_slotDur_range_trainLen] at h
  obtain ⟨k, -, rfl⟩ := List.mem_map.mp h
  exact slotDur_mem f k

/-- The duration of slot `k` when it is a mark, else 0 (R155). -/
def markDur (k : Nat) : Nat := if k % 2 = 0 then slotDur f k else 0

/-- The duration of slot `k` when it is a space, else 0 (R155). -/
def spaceDur (k : Nat) : Nat := if k % 2 = 1 then slotDur f k else 0

/-- Up to slot 198 the closed form is the list's entry. -/
theorem slotDur_eq_getD (h : k < trainLen) : slotDur f k = (trainOf f).getD k 0 := by
  rw [List.getD_eq_getElem?_getD, trainOf_getElem?_of_lt f h, Option.getD_some]

theorem map_markDur_range :
    (List.range trainLen).map (markDur f)
      = (List.range trainLen).map fun k => if k % 2 = 0 then (trainOf f).getD k 0 else 0 :=
  List.map_congr_left fun k hk => by rw [markDur, slotDur_eq_getD f (List.mem_range.mp hk)]

theorem map_spaceDur_range :
    (List.range trainLen).map (spaceDur f)
      = (List.range trainLen).map fun k => if k % 2 = 1 then (trainOf f).getD k 0 else 0 :=
  List.map_congr_left fun k hk => by rw [spaceDur, slotDur_eq_getD f (List.mem_range.mp hk)]

/-- The marks of a repetition are the header mark and bit marks, whatever its bytes (R153). -/
theorem markDur_of_lt (h : k < repLen) :
    markDur f k = if k % 2 = 0 then if k = 0 then hdrMark else bitMark else 0 := by
  unfold markDur
  split
  · next heven =>
    have hgap : k ≠ 99 := by omega
    have hspace : k ≠ 1 := by omega
    have hbit : (k - 2) % 2 = 0 := by omega
    simp [slotDur, h, hgap, hspace, hbit]
  · rfl

theorem markDur_sum_repetition : ((List.range repLen).map (markDur f)).sum = 57 := by
  rw [List.map_congr_left fun k hk => markDur_of_lt f (List.mem_range.mp hk)]
  decide

theorem markDur_add_hundred (h : k < repLen) : markDur f (100 + k) = markDur f k := by
  rw [markDur, markDur, slotDur_add_hundred f h, show (100 + k) % 2 = k % 2 by omega]

/-- The marks of a train are those of its two repetitions: the gap is a space (R154). -/
theorem markDur_sum : ((List.range trainLen).map (markDur f)).sum = 114 := by
  have second : (List.range repLen).map (fun k => markDur f (100 + k)) = (List.range repLen).map (markDur f) :=
    List.map_congr_left fun k hk => markDur_add_hundred f (List.mem_range.mp hk)
  have gap_slot : markDur f 99 = 0 := rfl
  rw [show trainLen = 99 + 1 + 99 from rfl, List.range_add, List.range_succ]
  simp [second, gap_slot, markDur_sum_repetition, Function.comp_def]

/-- A slot is a mark or a space, so the spaces last what the marks leave of the 330 units. -/
theorem markDur_sum_add_spaceDur_sum :
    ((List.range trainLen).map (markDur f)).sum + ((List.range trainLen).map (spaceDur f)).sum = 330 := by
  have hslot (k : Nat) : markDur f k + spaceDur f k = slotDur f k := by
    rcases Nat.mod_two_eq_zero_or_one k with h | h <;> simp [markDur, spaceDur, h]
  simp only [← List.sum_map_add, hslot]
  rw [map_slotDur_range_trainLen, trainOf_sum]

end

/-- Settles O23: the entries are DUR's, of which the marks are fixed and the spaces are what is left. -/
theorem trainShapeIsConstant : Obligations.TrainShapeIsConstant := by
  unfold Obligations.TrainShapeIsConstant
  intro f
  have hmarks := markDur_sum f
  have hspaces : ((List.range trainLen).map (spaceDur f)).sum = 216 := by
    have := markDur_sum_add_spaceDur_sum f
    omega
  rw [map_markDur_range] at hmarks
  rw [map_spaceDur_range] at hspaces
  exact ⟨repOf_length f, repOf_sum f, trainOf_length f, trainOf_sum f, fun _ => trainOf_mem f, hmarks,
    hspaces⟩

/-! ### DUR -/

section
variable (s : State) (f : Frame) {k : Nat}

theorem exec_dur_of_lt (h : k < trainLen) : exec (.dur f k) s = .next { s with sub := .duration (slotDur f k) } := by
  change execDur f k s = _
  rw [execDur, dur?, if_pos h]
  rfl

theorem exec_dur_of_le (h : trainLen ≤ k) : exec (.dur f k) s = .fault .slotIndex := by
  change execDur f k s = _
  rw [execDur, dur?, if_neg h.not_gt]

end

/-- Settles O24: the closed form is the entry, and there is neither beyond slot 198. -/
theorem durIsTheTrainEntry : Obligations.DurIsTheTrainEntry := by
  unfold Obligations.DurIsTheTrainEntry
  intro s f k
  exact ⟨fun h => ⟨slotDur f k, trainOf_getElem?_of_lt f h, exec_dur_of_lt s f h⟩,
    fun h => ⟨List.getElem?_eq_none (by rwa [trainOf_length]), exec_dur_of_le s f h⟩⟩

end Sys2Proof.Machine

/-! SUPPORT. The mark/space timer: START, TICK and FINISH, the outputs that follow its state, and what a step leaves of
a train in flight (42_pulse_train.md R161 to R165). -/

namespace Sys2Proof.Machine

/-- Settles O38: each output is its formula. -/
theorem statusOutputsFollowTheState : Obligations.StatusOutputsFollowTheState := by
  unfold Obligations.StatusOutputsFollowTheState
  intro s
  refine ⟨?_, ?_, rfl⟩
  · rw [State.busy, beq_iff_eq]
  · simp only [State.env, Bool.and_eq_true, beq_iff_eq, decide_eq_true_iff, and_assoc]

section
variable {s : State}

/-! ### START -/

theorem acceptEnabled_of_spaced (hp : s.phase = .ready) (hg : Spec.spaced s.ports.now s.lastTx) :
    s.acceptEnabled = true := by
  have hg : s.guardNow = true := (guardPasses_iff_spaced _ _).mpr hg
  rw [State.acceptEnabled, hp, hg]
  rfl

/-- The writes of R162, with the frame's first slot. -/
theorem startTrain_eq (c : Command) (f : Frame) :
    s.startTrain c f = { s with cLat := c, fLat := f, k := 0, t := 8 * s.cfg.u, phase := .busy } := by
  rw [State.startTrain, slotDur_zero, Nat.mul_comm]

/-! ### TICK -/

theorem tickTimer_of_counting (hb : s.phase = .busy) (hk : s.k < trainLen) (ht : 1 < s.t) :
    s.tickTimer = { s with t := s.t - 1 } := by
  rw [State.tickTimer, if_pos ⟨hb, hk⟩, if_pos ht]

theorem tickTimer_of_slot_end (hb : s.phase = .busy) (hk : s.k < trainLen) (ht : s.t ≤ 1) :
    s.tickTimer = s.nextSlot := by
  rw [State.tickTimer, if_pos ⟨hb, hk⟩, if_neg ht.not_gt]

theorem tickTimer_of_rest (h : s.phase = .ready ∨ trainLen ≤ s.k) : s.tickTimer = s := by
  refine if_neg fun ⟨hb, hk⟩ => ?_
  rcases h with h | h
  · simp [hb] at h
  · omega

/-- A slot before the last is followed by the next one (R163). -/
theorem nextSlot_of_lt (hk : s.k + 1 < trainLen) :
    s.nextSlot = { s with k := s.k + 1, t := s.cfg.u * slotDur s.fLat (s.k + 1) } := by
  rw [nextSlot_frame, State.nextSlot_k, State.nextSlot_t, if_pos hk]

/-- After the last slot the timer rests (R163). -/
theorem nextSlot_of_last (hk : s.k + 1 = trainLen) : s.nextSlot = { s with k := trainLen, t := 0 } := by
  rw [nextSlot_frame, State.nextSlot_k, State.nextSlot_t, if_neg hk.not_lt, hk]

theorem exec_tick (s : State) : exec .tick s = .next s.tickTimer := rfl

/-! ### FINISH -/

theorem finishSend_of_ready (h : s.phase = .ready) : finishSend s = .next s := if_pos (.inl h)

theorem finishSend_of_not_answered (h : s.answered = false) : finishSend s = .next s := if_pos (.inr h)

/-- An answer after the train commits the SEND or fails it, as the sink says (R164). -/
theorem finishSend_of_answered (hb : s.phase = .busy) (ha : s.answered = true) (hk : trainLen ≤ s.k) :
    finishSend s = .next (if s.ports.txOk then s.commitSend else s.raiseOutcome .txFailed) := by
  rw [finishSend, if_neg (by simp [hb, ha]), if_neg hk.not_gt]
  split <;> rfl

theorem commitSend_eq_committed (s : State) : s.commitSend = Spec.committed s := rfl

theorem raiseOutcome_eq_raised (s : State) (x : Result) : s.raiseOutcome x = Spec.raised s x := rfl

theorem exec_finish (s : State) : exec .finish s = finishSend s := rfl

end

/-- Settles O31: START is enabled, and loads slot 0 of the command's frame. -/
theorem startLoadsTheSequencer : Obligations.StartLoadsTheSequencer := by
  unfold Obligations.StartLoadsTheSequencer
  intro s c hp hg hc
  rw [exec_start_of_canonical hc, if_pos (acceptEnabled_of_spaced hp hg), startTrain_eq]

/-- Settles O39: a tick inside a slot, at the end of one, at the end of the last, and at rest. -/
theorem tickCountsTheSlots : Obligations.TickCountsTheSlots := by
  unfold Obligations.TickCountsTheSlots
  intro s
  rw [exec_tick]
  refine ⟨fun hb hk ht => ?_, fun hb hk ht => ?_, fun hb hk ht => ?_, fun h => ?_⟩
  · rw [tickTimer_of_counting hb hk ht]
  · have hk' : s.k + 1 < trainLen := Nat.succ_lt_succ hk
    refine ⟨slotDur s.fLat (s.k + 1), trainOf_getElem?_of_lt _ hk', ?_⟩
    rw [tickTimer_of_slot_end hb (Nat.lt_of_succ_lt hk') ht, nextSlot_of_lt hk']
  · have hk' : s.k + 1 = trainLen := congrArg Nat.succ hk
    rw [tickTimer_of_slot_end hb (Nat.lt_of_succ_le hk'.le) ht, nextSlot_of_last hk']
  · rw [tickTimer_of_rest h]

/-- Settles O40: FINISH without an answer, with one by what it says, with an early one, and in READY. -/
theorem finishEndsTheSend : Obligations.FinishEndsTheSend := by
  unfold Obligations.FinishEndsTheSend
  intro s
  rw [exec_finish, ← answered_iff_answer, Bool.not_eq_true, ← commitSend_eq_committed, ← raiseOutcome_eq_raised]
  refine ⟨fun _ ha => finishSend_of_not_answered ha, fun hb ha hk ho => ?_, fun hb ha hk ho => ?_,
    finishSend_early, finishSend_of_ready⟩
  · rw [finishSend_of_answered hb ha hk.ge, if_pos ho]
  · rw [finishSend_of_answered hb ha hk.ge, ho]
    rfl

/-- A tick moves the slot index by at most one, and not from the end of the train (R163). -/
theorem tickTimer_k (s : State) : s.tickTimer.k = s.k ∨ (s.tickTimer.k = s.k + 1 ∧ s.k < trainLen) := by
  rcases tickTimer_cases s with ⟨-, e⟩ | ⟨-, -, -, e⟩ | ⟨-, hk, -, e⟩ <;> rw [e]
  · exact .inl rfl
  · exact .inl rfl
  · exact .inr ⟨s.nextSlot_k, hk⟩

/-- Settles O51: of the steps from BUSY without a reset only a tick writes `k` and `t`, and none writes the latches. -/
theorem trainInFlightIsFixed : Obligations.TrainInFlightIsFixed := by
  unfold Obligations.TrainInFlightIsFixed
  intro s s' h hb hrst
  cases step_cases h with
  | reset hr e => simp [hrst] at hr
  | reject _ hp _ _ e => simp [hb] at hp
  | accept _ hp _ _ _ _ e => simp [hb] at hp
  | tick _ _ ht e =>
    subst e
    refine ⟨by simp, by simp, fun hn => by simp [ht] at hn, ?_⟩
    simpa using tickTimer_k s.clearEvents
  | commit _ _ _ _ _ e | fail _ _ _ _ _ e | idle _ _ _ e | probeSub _ _ _ _ _ e | probeOutcome _ _ _ _ _ e =>
    subst e
    simp

end Sys2Proof.Machine

/-! SUPPORT. The spacing of accepted SENDs (43_rate_limiter.md R182, R190): READY is left for BUSY by an acceptance
alone, which is also the only step that calls the sink; between two commits `lastTx` is kept. -/

namespace Sys2Proof.Machine

variable {s s' : State}

theorem guardNow_iff_spaced : s.guardNow = true ↔ Spec.spaced s.ports.now s.lastTx := guardPasses_iff_spaced _ _

theorem guardNow_eq_false_iff : s.guardNow = false ↔ ¬ Spec.spaced s.ports.now s.lastTx := by
  rw [← guardNow_iff_spaced, Bool.not_eq_true]

/-! ### Acceptance -/

/-- A step either accepts a request, which the guard has passed, and calls the sink with the train it latches, or it
does not go from READY to BUSY and calls nothing (R182 to R184). -/
theorem step_accepts_or_calls_nothing (h : step s = .next s') :
    (s.phase = .ready ∧ s'.phase = .busy ∧ s.guardNow = true
      ∧ s'.out.txStart = some { durations := Spec.durations s'.cfg.u s'.fLat, carrierHz := s'.cfg.carrierHz })
    ∨ (¬ (s.phase = .ready ∧ s'.phase = .busy) ∧ s'.out.txStart = none) := by
  cases step_cases h with
  | accept _ hp _ hg f _ e =>
    subst e
    exact .inl ⟨hp, by simp, hg, by simp [Spec.durations, sinkDurations]⟩
  | reset _ e | commit _ _ _ _ _ e | fail _ _ _ _ _ e | reject _ _ _ _ e | tick _ _ _ e | idle _ _ _ e
  | probeSub _ _ _ _ _ e | probeOutcome _ _ _ _ _ e =>
    subst e
    refine .inr ⟨fun ⟨hp, hb⟩ => ?_, by simp [Outputs.none]⟩
    simp [hp] at hb

/-- Settles O53: an accepting step calls the sink, and a step that calls it accepts. -/
theorem sinkCalledExactlyAtAcceptance : Obligations.SinkCalledExactlyAtAcceptance := by
  unfold Obligations.SinkCalledExactlyAtAcceptance
  intro s s' h
  rcases step_accepts_or_calls_nothing h with ⟨hp, hb, -, hcall⟩ | ⟨hno, hcall⟩ <;> rw [hcall]
  · exact ⟨⟨fun _ => ⟨hp, hb⟩, fun _ => rfl⟩, fun _ e => (Option.some.inj e).symm⟩
  · exact ⟨⟨fun e => by simp at e, fun e => absurd e hno⟩, fun _ e => by simp at e⟩

theorem spaced_of_accepting_step (h : step s = .next s') (hp : s.phase = .ready) (hb : s'.phase = .busy) :
    Spec.spaced s.ports.now s.lastTx := by
  rcases step_accepts_or_calls_nothing h with ⟨-, -, hg, -⟩ | ⟨hno, -⟩
  · exact guardNow_iff_spaced.mp hg
  · exact absurd ⟨hp, hb⟩ hno

/-! ### From a commit on -/

/-- In BUSY only a commit drives OK, unless a word is evaluated; it stores the time of its step (R186, R220). -/
theorem lastTx_of_ok (h : step s = .next s') (hb : s.phase = .busy) (hok : s'.out.res = some .ok)
    (hn : s.ports.probe = none) : s'.lastTx = s.ports.now := by
  cases step_cases h with
  | commit _ _ _ _ _ e => simp [e]
  | probeSub _ _ _ hq _ e | probeOutcome _ _ _ hq _ e => exact absurd hn hq
  | reject _ hp _ _ e | accept _ hp _ _ _ _ e => simp [hb] at hp
  | reset _ e | fail _ _ _ _ _ e | tick _ _ _ e | idle _ _ _ e => simp [e, Outputs.none] at hok

/-- A step with neither reset nor OK keeps `lastTx` (R186, R250). -/
theorem lastTx_of_not_ok (h : step s = .next s') (hr : s.ports.rst = false) (hok : s'.out.res ≠ some .ok) :
    s'.lastTx = s.lastTx := by
  rcases onlyCommitAndResetWriteDeviceState s s' h hr with ⟨-, hkeep⟩ | ⟨-, -, -, -, -, -, hres⟩
  · exact hkeep
  · exact absurd hres hok

/-- A run of one step more begins with a step. -/
theorem step_of_run_succ {n : Nat} {u : State} (h : Sys2Proof.core.run (n + 1) s = .next u) :
    ∃ s', step s = .next s' ∧ Sys2Proof.core.run n s' = .next u := by
  cases hs : step s with
  | next s' => exact ⟨s', rfl, run_succ n hs ▸ h⟩
  | fault f => rw [run_succ_fault n hs] at h; cases h
  | refused x => rw [run_succ_refused n hs] at h; cases h

/-- What each step of a run keeps, the run keeps. -/
theorem run_keeps (P : State → Prop) {n : Nat} {u : State} (hrun : Sys2Proof.core.run n s = .next u) (hs : P s)
    (hstep : ∀ m, m < n → ∀ v v', Sys2Proof.core.run m s = .next v → step v = .next v' → P v → P v') : P u := by
  induction n generalizing s with
  | zero => cases hrun; exact hs
  | succ n ih =>
    obtain ⟨s', h, hrun'⟩ := step_of_run_succ hrun
    refine ih hrun' (hstep 0 n.succ_pos s s' (run_zero s) h hs) fun m hm v v' hv => ?_
    exact hstep (m + 1) (Nat.succ_lt_succ hm) v v' ((run_succ m h).trans hv)

/-- Settles O58: the commit stores its time in `lastTx`, the run keeps it there, and the guard of the accepted SEND
compares with it. -/
theorem acceptedSendsAreSpacedAfterCommit : Obligations.AcceptedSendsAreSpacedAfterCommit := by
  unfold Obligations.AcceptedSendsAreSpacedAfterCommit
  intro s₀ s₁ u u' n hcommit hb hok hn hrun hquiet haccept hp hb'
  have hlast : u.lastTx = s₀.ports.now := by
    refine run_keeps (·.lastTx = s₀.ports.now) hrun (lastTx_of_ok hcommit hb hok hn) fun m hm v v' hv h hkeep => ?_
    obtain ⟨hr, hno⟩ := hquiet m hm v v' hv h
    exact (lastTx_of_not_ok h hr hno).trans hkeep
  exact hlast ▸ spaced_of_accepting_step haccept hp hb'

end Sys2Proof.Machine

/-! SUPPORT. The rate limiter's operations run alone (43_rate_limiter.md R180 to R188): when each part of SEND is
enabled, what it does then, and that it stops by name elsewhere (log 9). -/

namespace Sys2Proof.Machine

/-! ### When a part is enabled (R187) -/

section
variable {s : State}

theorem acceptEnabled_iff : s.acceptEnabled = true ↔ s.phase = .ready ∧ Spec.spaced s.ports.now s.lastTx := by
  rw [State.acceptEnabled, Bool.and_eq_true, beq_iff_eq, guardNow_iff_spaced]

theorem rejectEnabled_iff : s.rejectEnabled = true ↔ s.phase = .ready ∧ ¬ Spec.spaced s.ports.now s.lastTx := by
  rw [State.rejectEnabled, Bool.and_eq_true, beq_iff_eq, Bool.not_eq_true', guardNow_eq_false_iff]

theorem callDue_iff : s.callDue = true ↔ s.phase = .busy ∧ s.k = 0 ∧ s.t = 8 * s.cfg.u := by
  simp only [State.callDue, Bool.and_eq_true, beq_iff_eq, decide_eq_true_iff, and_assoc, Nat.mul_comm]

theorem failDue_iff :
    (s.answerDue && !s.ports.txOk) = true ↔
      s.phase = .busy ∧ 199 ≤ s.k ∧ Spec.answer s ∧ s.ports.txOk = false := by
  simp [State.answerDue, answered_iff_answer, and_assoc]

theorem commitDue_iff :
    (s.answerDue && s.ports.txOk) = true ↔
      s.phase = .busy ∧ 199 ≤ s.k ∧ Spec.answer s ∧ s.ports.txOk = true := by
  simp [State.answerDue, answered_iff_answer, and_assoc]

end

/-! ### What an enabled part does -/

section
variable {s : State}

/-- The accepted state is START's with the sink called (R182). -/
theorem accepted_eq (s : State) (c : Command) : Spec.accepted s c = (s.startTrain c (Spec.frame c)).callSink := by
  rw [startTrain_eq]
  rfl

/-- A request that passes the guard is accepted with the command it normalizes to (R182). -/
theorem acceptRequest_eq_accepted (r : Request) (s : State) :
    acceptRequest r s = .next (Spec.accepted s (normalizeRequest r s.st)) := by
  obtain ⟨f, hf, h⟩ := acceptRequest_eq r s
  rw [frameOf_eq_frame (normalizeRequest_canonical r s.st)] at hf
  rw [h, accepted_eq, Option.some.inj hf]

theorem exec_guard (s : State) (t0 : Time) :
    exec (.guard t0) s = .next { s with sub := .bool (guardPasses t0 s.lastTx) } := rfl

theorem exec_accept (w : BitVec 16) (hp : s.phase = .ready) (hg : Spec.spaced s.ports.now s.lastTx) :
    exec (.accept w) s = .next (Spec.accepted s (normalizeRequest (splitRequest w) s.st)) :=
  (if_pos (acceptEnabled_iff.mpr ⟨hp, hg⟩)).trans (acceptRequest_eq_accepted _ s)

theorem exec_reject (hp : s.phase = .ready) (hg : ¬ Spec.spaced s.ports.now s.lastTx) :
    exec .reject s = .next (Spec.raised s .rateLimited) :=
  if_pos (rejectEnabled_iff.mpr ⟨hp, hg⟩)

theorem exec_transmit (hb : s.phase = .busy) (hk : s.k = 0) (ht : s.t = 8 * s.cfg.u) :
    exec .transmit s = .next s.callSink :=
  if_pos (callDue_iff.mpr ⟨hb, hk, ht⟩)

theorem exec_fail (hb : s.phase = .busy) (hk : 199 ≤ s.k) (ha : Spec.answer s) (ho : s.ports.txOk = false) :
    exec .fail s = .next (Spec.raised s .txFailed) :=
  if_pos (failDue_iff.mpr ⟨hb, hk, ha, ho⟩)

theorem exec_commit (hb : s.phase = .busy) (hk : 199 ≤ s.k) (ha : Spec.answer s) (ho : s.ports.txOk = true) :
    exec .commit s = .next (Spec.committed s) :=
  if_pos (commitDue_iff.mpr ⟨hb, hk, ha, ho⟩)

/-! ### Where a part is not enabled (log 9) -/

theorem exec_start_not_enabled (c : Command) (h : ¬ (s.phase = .ready ∧ Spec.spaced s.ports.now s.lastTx)) :
    exec (.start c) s = .fault .notEnabled :=
  if_neg (acceptEnabled_iff.not.mpr h)

theorem exec_accept_not_enabled (w : BitVec 16) (h : ¬ (s.phase = .ready ∧ Spec.spaced s.ports.now s.lastTx)) :
    exec (.accept w) s = .fault .notEnabled :=
  if_neg (acceptEnabled_iff.not.mpr h)

theorem exec_reject_not_enabled (h : ¬ (s.phase = .ready ∧ ¬ Spec.spaced s.ports.now s.lastTx)) :
    exec .reject s = .fault .notEnabled :=
  if_neg (rejectEnabled_iff.not.mpr h)

theorem exec_transmit_not_enabled (h : ¬ (s.phase = .busy ∧ s.k = 0 ∧ s.t = 8 * s.cfg.u)) :
    exec .transmit s = .fault .notEnabled :=
  if_neg (callDue_iff.not.mpr h)

theorem exec_fail_not_enabled (h : ¬ (s.phase = .busy ∧ 199 ≤ s.k ∧ Spec.answer s ∧ s.ports.txOk = false)) :
    exec .fail s = .fault .notEnabled :=
  if_neg (failDue_iff.not.mpr h)

theorem exec_commit_not_enabled (h : ¬ (s.phase = .busy ∧ 199 ≤ s.k ∧ Spec.answer s ∧ s.ports.txOk = true)) :
    exec .commit s = .fault .notEnabled :=
  if_neg (commitDue_iff.not.mpr h)

/-! ### SEND -/

theorem exec_sendOn (t : BitVec 8) (m : BitVec 3) (f : BitVec 4) (s : State) :
    exec (.sendOn t m f) s = sendRequest ⟨t, true, m, f⟩ s := rfl

theorem exec_sendOff (t : BitVec 8) (m : BitVec 3) (f : BitVec 4) (s : State) :
    exec (.sendOff t m f) s = sendRequest ⟨t, false, m, f⟩ s := rfl

theorem sendRequest_of_spaced (r : Request) (hp : s.phase = .ready) (hg : Spec.spaced s.ports.now s.lastTx) :
    sendRequest r s = .next (Spec.accepted s (normalizeRequest r s.st)) :=
  (sendRequest_accepted r hp (guardNow_iff_spaced.mpr hg)).trans (acceptRequest_eq_accepted r s)

theorem sendRequest_of_not_spaced (r : Request) (hp : s.phase = .ready)
    (hg : ¬ Spec.spaced s.ports.now s.lastTx) : sendRequest r s = .next (Spec.raised s .rateLimited) :=
  sendRequest_rejected r hp (guardNow_eq_false_iff.mpr hg)

end

/-- Settles O26: both rows are SEND of their request. -/
theorem sendAcceptedWhenSpaced : Obligations.SendAcceptedWhenSpaced := by
  unfold Obligations.SendAcceptedWhenSpaced
  intro s t m f hp hg
  rw [exec_sendOn, exec_sendOff, sendRequest_of_spaced _ hp hg, sendRequest_of_spaced _ hp hg]
  exact ⟨⟨_, normalized_normalizeRequest _ _, rfl⟩, ⟨_, normalized_normalizeRequest _ _, rfl⟩⟩

/-- Settles O30: START is enabled and leaves the call due, and its state with the sink called is the accepted one. -/
theorem acceptIsStartThenTransmit : Obligations.AcceptIsStartThenTransmit := by
  unfold Obligations.AcceptIsStartThenTransmit
  intro s w hp hg
  refine ⟨normalizeRequest (splitRequest w) s.st, _, rfl,
    startLoadsTheSequencer s _ hp hg (normalizeRequest_canonical _ _), ?_⟩
  rw [exec_transmit rfl rfl rfl, exec_accept w hp hg]
  rfl

/-- Settles O32: the command is the one the word normalizes to. -/
theorem acceptCompletesWhenSpaced : Obligations.AcceptCompletesWhenSpaced := by
  unfold Obligations.AcceptCompletesWhenSpaced
  intro s w hp hg
  exact ⟨_, normalized_normalizeRequest (splitRequest w) s.st, exec_accept w hp hg⟩

/-- Settles O25: the boolean is the guard's, which is R181 on mathematical numbers. -/
theorem guardIsElapsedTimeAtLeastMinDelay : Obligations.GuardIsElapsedTimeAtLeastMinDelay := by
  unfold Obligations.GuardIsElapsedTimeAtLeastMinDelay
  intro s t0
  exact ⟨_, exec_guard s t0, guardPasses_iff_spaced t0 s.lastTx⟩

/-- Settles O27: both rows are SEND of their request. -/
theorem sendRejectedInCooldown : Obligations.SendRejectedInCooldown := by
  unfold Obligations.SendRejectedInCooldown
  intro s t m f hp hg
  rw [exec_sendOn, exec_sendOff]
  exact ⟨sendRequest_of_not_spaced _ hp hg, sendRequest_of_not_spaced _ hp hg⟩

/-- Settles O28: both rows are SEND of their request. -/
theorem sendNotTakenWhileBusy : Obligations.SendNotTakenWhileBusy := by
  unfold Obligations.SendNotTakenWhileBusy
  intro s t m f hb
  rw [exec_sendOn, exec_sendOff]
  exact ⟨sendRequest_busy _ hb, sendRequest_busy _ hb⟩

/-- Settles O29: the word's instruction is SEND of its fields, which does on either side of the guard what the part
for that side does. -/
theorem sendIsGuardThenAcceptOrReject : Obligations.SendIsGuardThenAcceptOrReject := by
  unfold Obligations.SendIsGuardThenAcceptOrReject
  intro s w i hi hp
  obtain rfl : decodeRequest w = i := Except.ok.inj hi
  rw [exec_decodeRequest]
  constructor
  · intro hg
    rw [sendRequest_of_spaced _ hp hg, exec_accept w hp hg]
  · intro hg
    rw [sendRequest_of_not_spaced _ hp hg, exec_reject hp hg]

/-- Settles O33: the call is due. -/
theorem transmitCallsTheSink : Obligations.TransmitCallsTheSink := by
  unfold Obligations.TransmitCallsTheSink
  intro s hb hk ht
  exact ⟨exec_transmit hb hk ht, sinkDurations_length s.cfg.u s.fLat⟩

/-- Settles O34: REJECT is enabled. -/
theorem rejectHasNoSideEffects : Obligations.RejectHasNoSideEffects := by
  unfold Obligations.RejectHasNoSideEffects
  exact fun _ => exec_reject

/-- Settles O35: FAIL is enabled. -/
theorem failCommitsNothing : Obligations.FailCommitsNothing := by
  unfold Obligations.FailCommitsNothing
  exact fun _ hb hk => exec_fail hb hk.ge

/-- Settles O36: COMMIT is enabled. -/
theorem commitWritesAllFive : Obligations.CommitWritesAllFive := by
  unfold Obligations.CommitWritesAllFive
  exact fun _ hb hk => exec_commit hb hk.ge

/-- Settles O37: each clause denies one condition of its parts' transitions. -/
theorem partsStopOutsideTheirTransition : Obligations.PartsStopOutsideTheirTransition := by
  unfold Obligations.PartsStopOutsideTheirTransition
  intro s c w
  refine ⟨fun hb => ?_, fun hr => ?_, fun hg => ?_, fun hg => ?_, fun hkt => ?_, fun hk => ?_, fun ha => ?_,
    fun ho => ?_, fun ho => ?_⟩
  · have hp : s.phase ≠ .ready := by simp [hb]
    exact ⟨exec_start_not_enabled c fun h => hp h.1, exec_accept_not_enabled w fun h => hp h.1,
      exec_reject_not_enabled fun h => hp h.1⟩
  · have hp : s.phase ≠ .busy := by simp [hr]
    exact ⟨exec_transmit_not_enabled fun h => hp h.1, exec_fail_not_enabled fun h => hp h.1,
      exec_commit_not_enabled fun h => hp h.1⟩
  · exact ⟨exec_start_not_enabled c fun h => hg h.2, exec_accept_not_enabled w fun h => hg h.2⟩
  · exact exec_reject_not_enabled fun h => h.2 hg
  · refine exec_transmit_not_enabled fun ⟨_, hk, ht⟩ => ?_
    exact hkt.elim (· hk) (· ht)
  · exact ⟨exec_fail_not_enabled fun ⟨_, h, _⟩ => hk.not_ge h, exec_commit_not_enabled fun ⟨_, h, _⟩ => hk.not_ge h⟩
  · exact ⟨exec_fail_not_enabled fun ⟨_, _, h, _⟩ => ha h, exec_commit_not_enabled fun ⟨_, _, h, _⟩ => ha h⟩
  · exact exec_fail_not_enabled fun ⟨_, _, _, h⟩ => by simp [ho] at h
  · exact exec_commit_not_enabled fun ⟨_, _, _, h⟩ => by simp [ho] at h

/-- Settles O60: FINISH leaves a READY state with the same time and `lastTx`, so the guard passes again. -/
theorem retryAfterFailureIsAccepted : Obligations.RetryAfterFailureIsAccepted := by
  unfold Obligations.RetryAfterFailureIsAccepted
  intro s s₁ t m f hb hk ha ho h hg
  obtain ⟨-, -, hfail, -, -⟩ := finishEndsTheSend s
  obtain rfl : Spec.raised s .txFailed = s₁ := Host.Outcome.next.inj ((hfail hb ha hk ho).symm.trans h)
  rw [exec_sendOn, exec_sendOff]
  exact ⟨rfl, rfl, ⟨_, sendRequest_of_spaced _ rfl hg, rfl⟩, ⟨_, sendRequest_of_spaced _ rfl hg, rfl⟩⟩

end Sys2Proof.Machine

/-! SUPPORT. The same request at Level A once more (43_rate_limiter.md R191): normalizing it against its own command
gives that command again. -/

namespace Sys2Proof.Machine

theorem fallbackMode_fallbackMode (tok : BitVec 3) (stored : Mode) :
    fallbackMode tok (fallbackMode tok stored) = fallbackMode tok stored := by
  unfold fallbackMode
  cases modeOfToken tok <;> rfl

theorem fallbackFan_fallbackFan (tok : BitVec 4) (stored : Fan) :
    fallbackFan tok (fallbackFan tok stored) = fallbackFan tok stored := by
  unfold fallbackFan
  cases fanOfToken tok <;> rfl

theorem normalizeRequest_normalizeRequest (r : Request) (st : Command) :
    normalizeRequest r (normalizeRequest r st) = normalizeRequest r st := by
  simp only [normalizeRequest, fallbackMode_fallbackMode, fallbackFan_fallbackFan]

section
variable {p : Params} {st : Command} {lastTx t0 t1 : Time} {r : Request} {x : Transaction}

/-- On a time spaced from `lastTx` a request and the sink's success make the transaction of an accepted request. -/
theorem sendA_of_spaced (hg : Spec.spaced t0 lastTx) (h : sendA p st lastTx r t0 true t1 = some x) :
    x = acceptedTransaction p st lastTx (normalizeRequest r st) (Spec.frame (normalizeRequest r st)) true t1 := by
  have hf := frameOf_eq_frame (normalizeRequest_canonical r st)
  rw [sendA_accepted true ((guardPasses_iff_spaced _ _).mpr hg) hf] at h
  exact (Option.some.inj h).symm

/-- A transaction that ends OK has passed the guard. -/
theorem spaced_of_sendA_ok (h : sendA p st lastTx r t0 true t1 = some x) (hok : x.out.res = some .ok) :
    Spec.spaced t0 lastTx := by
  rw [← guardPasses_iff_spaced]
  by_contra hg
  rw [sendA_rejected true (Bool.eq_false_iff.mpr hg)] at h
  cases h
  simp at hok

end

/-- Settles O59: both transactions are those of an accepted request, with one command, so one frame. -/
theorem sameRequestSendsTheSameTrain : Obligations.SameRequestSendsTheSameTrain := by
  unfold Obligations.SameRequestSendsTheSameTrain
  intro p st lastTx t0 t1 t0' t1' r x y hx hok hy hg
  obtain rfl := sendA_of_spaced (spaced_of_sendA_ok hx hok) hx
  obtain rfl := sendA_of_spaced hg hy
  simp only [acceptedTransaction, if_true, normalizeRequest_normalizeRequest, true_and]
  exact ⟨_, rfl, rfl⟩

end Sys2Proof.Machine

/-! SUPPORT. What a step selects (42_pulse_train.md R163, R164; 43_rate_limiter.md R187, R188;
70_reset_and_hazards.md R250; logs 1, 7, 8). -/

namespace Sys2Proof.Machine

section
variable {s : State}

/-- A step runs the operation it selects. -/
theorem step_eq_ran {i : Instr} (h : s.select = .run i) : step s = Spec.ran s i := by
  unfold step
  rw [h]
  rfl

theorem not_answer_iff : ¬ Spec.answer s ↔ s.answered = false := by
  rw [← answered_iff_answer, Bool.not_eq_true]

/-! ### By the ports -/

theorem select_of_rst (hr : s.ports.rst = true) : s.select = .run .reset := if_pos hr

theorem select_of_answer (hr : s.ports.rst = false) (hb : s.phase = .busy) (ha : Spec.answer s) :
    s.select = .run .finish := by
  simp [State.select, hr, hb, answered_iff_answer.mpr ha]

/-- In BUSY a tick is taken when there is no answer; in READY when there is no request (log 8). -/
theorem select_of_tick_busy (hr : s.ports.rst = false) (hb : s.phase = .busy) (ha : ¬ Spec.answer s)
    (ht : s.ports.tick = true) : s.select = .run .tick := by
  simp [State.select, hr, hb, not_answer_iff.mp ha, ht]

theorem select_of_tick_ready (hr : s.ports.rst = false) (hp : s.phase = .ready) (hv : s.ports.reqValid = false)
    (ht : s.ports.tick = true) : s.select = .run .tick := by
  simp [State.select, hr, hp, hv, ht]

theorem select_of_request_busy {w : BitVec 16} (hw : s.presents w) (hb : s.phase = .busy) (ha : ¬ Spec.answer s)
    (ht : s.ports.tick = false) : s.select = .run (decodeRequest w) := by
  obtain ⟨hr, hv, rfl⟩ := hw
  simp [State.select, hr, hb, not_answer_iff.mp ha, ht, hv, selectRequest_eq]

theorem select_of_request_ready {w : BitVec 16} (hw : s.presents w) (hp : s.phase = .ready) :
    s.select = .run (decodeRequest w) := by
  obtain ⟨hr, hv, rfl⟩ := hw
  simp [State.select, hr, hp, hv, selectRequest_eq]

/-! ### By the evaluation port -/

theorem select_of_silent (h : Spec.silent s) : s.select = selectProbe s := by
  obtain ⟨hr, hv, ht, ha⟩ := h
  cases hp : s.phase
  case ready => simp [State.select, hr, hp, hv, ht]
  case busy => simp [State.select, hr, hp, hv, ht, not_answer_iff.mp (ha hp)]

theorem selectProbe_none (h : s.ports.probe = none) : selectProbe s = .idle := by
  rw [selectProbe, h]

theorem selectProbe_run {n x : Nat} {i : Instr} (h : s.ports.probe = some (n, x)) (hn : n ≠ 16)
    (hi : decodeTableWord n x = some i) : selectProbe s = .run i := by
  simp [selectProbe, h, hn, hi]

theorem selectProbe_reject {n x : Nat} (h : s.ports.probe = some (n, x))
    (hno : n = 16 ∨ decodeTableWord n x = none) : selectProbe s = .reject .noFormat := by
  have hnone : (if n = 16 then none else decodeTableWord n x) = none := by
    rw [ite_eq_left_iff]
    exact hno.resolve_left
  rw [selectProbe, h]
  dsimp only
  rw [hnone]

end

/-- Settles O44: each clause is what the ports select, run by the step. -/
theorem stepRunsTheDecodedInstruction : Obligations.StepRunsTheDecodedInstruction := by
  unfold Obligations.StepRunsTheDecodedInstruction
  refine ⟨fun s => ⟨?_, ?_, ?_, ?_, ?_, ?_, ?_, ?_, ?_, rfl⟩, fun t => ⟨fun _ _ => advance_of_later, advance_of_nil⟩⟩
  · exact fun hr => step_eq_ran (select_of_rst hr)
  · exact fun hr hb ha => step_eq_ran (select_of_answer hr hb ha)
  · exact fun hr hb ha ht => step_eq_ran (select_of_tick_busy hr hb ha ht)
  · intro w i hw hb ha ht hi
    exact Except.ok.inj hi ▸ step_eq_ran (select_of_request_busy hw hb ha ht)
  · intro w i hw hp hi
    exact Except.ok.inj hi ▸ step_eq_ran (select_of_request_ready hw hp)
  · exact fun hr hp hv ht => step_eq_ran (select_of_tick_ready hr hp hv ht)
  · exact fun n x i hs hq hn hi => step_eq_ran ((select_of_silent hs).trans (selectProbe_run hq hn hi))
  · exact fun n x hs hq hno => step_of_reject ((select_of_silent hs).trans (selectProbe_reject hq hno))
  · exact fun hs hq => step_of_idle ((select_of_silent hs).trans (selectProbe_none hq))

end Sys2Proof.Machine

/-! SUPPORT. The events that end a SEND (60_exceptions.md R211, R218 to R220). -/

namespace Sys2Proof.Machine

variable {s s' : State}

/-- The three events that end a SEND: the outcome `x`, the feedback, and the confirmation of a commit alone
(R218 to R220). -/
def Outputs.EndSend (o : Outputs) (x : Result) : Prop :=
  o.res = some x ∧ o.fb = some (decide (x = .ok)) ∧ (o.conf.isSome = true ↔ x = .ok)

theorem endSend_raiseOutcome (x : Result) (hx : x ≠ .ok) :
    (s.clearEvents.raiseOutcome x).advance.out.EndSend x := by
  simp [Outputs.EndSend, Outputs.none, hx]

theorem endSend_commitSend : s.clearEvents.commitSend.advance.out.EndSend .ok := by
  simp [Outputs.EndSend]

/-- With nothing on the evaluation port, a step ends a SEND, which a rejection does from READY and the sink's answer
from BUSY, or drives none of the three events (R211, R187). -/
theorem step_ends_send_or_is_silent (h : step s = .next s') (hn : s.ports.probe = none) :
    (∃ x, s'.out.EndSend x ∧ s.ports.rst = false ∧ (x = .rateLimited ↔ s.phase = .ready) ∧ s'.phase = .ready)
    ∨ (s'.out.res = none ∧ s'.out.fb = none ∧ s'.out.conf = none) := by
  cases step_cases h with
  | commit hr hb _ _ _ e =>
    subst e
    exact .inl ⟨.ok, endSend_commitSend, hr, by simp [hb], by simp⟩
  | fail hr hb _ _ _ e =>
    subst e
    exact .inl ⟨.txFailed, endSend_raiseOutcome .txFailed (by decide), hr, by simp [hb], by simp⟩
  | reject hr hp _ _ e =>
    subst e
    exact .inl ⟨.rateLimited, endSend_raiseOutcome .rateLimited (by decide), hr, by simp [hp], by simp⟩
  | probeSub _ _ _ hq _ e | probeOutcome _ _ _ hq _ e => exact absurd hn hq
  | reset _ e | tick _ _ _ e | accept _ _ _ _ _ _ e | idle _ _ _ e =>
    subst e
    exact .inr (by simp [Outputs.none])

/-- Settles O52: the outcome of a step that ends a SEND is the one it drives; a silent step drives none. -/
theorem outcomeFeedbackConfirmationTogether : Obligations.OutcomeFeedbackConfirmationTogether := by
  unfold Obligations.OutcomeFeedbackConfirmationTogether
  intro s s' h hn
  rcases step_ends_send_or_is_silent h hn with ⟨x, ⟨hres, hfb, hconf⟩, hr, hx, hp⟩ | ⟨hres, hfb, hconf⟩
  · refine ⟨fun y hy => ?_, fun hnone => by simp [hres] at hnone⟩
    obtain rfl : x = y := Option.some.inj (hres.symm.trans hy)
    exact ⟨hr, hfb, hconf, hx, hp⟩
  · exact ⟨fun y hy => by simp [hres] at hy, fun _ => ⟨hfb, hconf⟩⟩

/-! ### The outcome codes -/

theorem Result.code_ne_three (x : Result) : x.code ≠ 3 := by cases x <;> decide

/-- Settles O10: each row is its write of the outcome event, and each outcome has its code of the three. -/
theorem outcomeCodeRows : Obligations.OutcomeCodeRows := by
  unfold Obligations.OutcomeCodeRows
  exact ⟨fun s => ⟨rfl, rfl, rfl⟩, rfl, rfl, rfl, Result.code_ne_three⟩

end Sys2Proof.Machine

/-! SUPPORT. Reset, and the steps that leave BUSY (70_reset_and_hazards.md R250, R251, R255). -/

namespace Sys2Proof.Machine

/-- Settles O50: of the steps from BUSY the reset, the commit and the failure leave it; the last two are the sink's
answer after the train (R164). -/
theorem busyLeftOnlyByAnswerOrReset : Obligations.BusyLeftOnlyByAnswerOrReset := by
  unfold Obligations.BusyLeftOnlyByAnswerOrReset
  intro s s' h hb hp'
  cases step_cases h with
  | reset hr _ => exact .inl hr
  | commit _ _ ha hk _ _ | fail _ _ ha hk _ _ => exact .inr ⟨hk, answered_iff_answer.mp ha⟩
  | reject _ hp _ _ _ | accept _ hp _ _ _ _ _ => simp [hb] at hp
  | tick _ _ _ e | idle _ _ _ e | probeSub _ _ _ _ _ e | probeOutcome _ _ _ _ _ e =>
    subst e
    simp [hb] at hp'

theorem exec_reset (s : State) : exec .reset s = .next s.resetBlock := rfl

/-- Settles O42: the block's reset is the state described, with the free command and the free frame of its counter in
the two latches (log 4). -/
theorem resetFromAnyState : Obligations.ResetFromAnyState := by
  unfold Obligations.ResetFromAnyState
  exact fun s => ⟨Config.freeCommand s.free, Config.freeFrame s.free, exec_reset s⟩

end Sys2Proof.Machine
